-- ==== Sys2Proof/Word.lean ====
section
/-! DEFINITION. The word types of the block and their plainest arithmetic (00_scope.md R8, R10). -/

namespace Sys2Proof

/-- A u8. -/
abbrev Byte := BitVec 8

/-- A u16. -/
abbrev Half := BitVec 16

/-- A 32-bit register word (20_memory.md R101). -/
abbrev Word := BitVec 32

/-- An IEEE-754 binary32 value held in a 32-bit register (00_scope.md R10). -/
abbrev F32 := BitVec 32

/-- A word address of the host register space (20_memory.md R100). -/
abbrev HostAddr := BitVec 16

/-- A 7-bit bus address (20_memory.md R100). -/
abbrev BusAddr := BitVec 7

/-- A 64-bit host access frame (30_encoding.md R141). -/
abbrev Frame := BitVec 64

/-- One bit as a one-bit word. -/
abbrev ofBit (b : Bool) : BitVec 1 := BitVec.ofBool b

/-- The high byte of a u16 (44_bus.md section 3). -/
abbrev hi (x : Half) : Byte := x.extractLsb' 8 8

/-- The low byte of a u16 (44_bus.md section 3). -/
abbrev lo (x : Half) : Byte := x.extractLsb' 0 8

end Sys2Proof
end

