-- ==== Sys2Proof/Config.lean ====
section
/-! DEFINITION. The sizes the spec fixes, the implementation parameters as plain data, the answers
of the two oracles with their contracts, and the free values (00_scope.md R6, R7). -/

namespace Sys2Proof.Config

/-- MAX_BOARDS (00_scope.md R6). -/
abbrev maxBoards : Nat := 16
/-- MAX_CH (00_scope.md R6). -/
abbrev maxCh : Nat := 16
/-- MAX_DEVICES (00_scope.md R6). -/
abbrev maxDevices : Nat := 256
/-- MAX_CLUSTERS (00_scope.md R6). -/
abbrev maxClusters : Nat := 8
/-- ADC_MAX_CH (00_scope.md R6). -/
abbrev adcMaxCh : Nat := 4
/-- The largest NUM_VOICES an instance may have (00_scope.md R6). -/
abbrev maxVoices : Nat := 64
/-- The largest NUM_GROUPS an instance may have (00_scope.md R6). -/
abbrev maxGroups : Nat := 16
/-- The default NUM_VOICES (00_scope.md R6). -/
abbrev defaultVoices : Nat := 16
/-- The default NUM_GROUPS (00_scope.md R6). -/
abbrev defaultGroups : Nat := 4

/-- The chip family of a board (30_encoding.md R151; codes 4..7 are reserved and no board has one). -/
inductive Family where
  | dacSel | dacFull | adc | gpio
deriving DecidableEq, Repr, Inhabited

/-- The capability of a board and of its devices (10_state.md R63, R65). -/
inductive Kind where
  | ao | ai | do_
deriving DecidableEq, Repr, Inhabited

/-- The status of a bus transaction: the oracle's contract allows these six (44_bus.md R341). -/
inductive BusStatus where
  | ok | bufferOverflow | addressNack | dataNack | other | timeout
deriving DecidableEq, Repr, Inhabited

/-- One answer of the bus oracle. The status answers any transaction. The two bytes are used only by
a read answered `ok`: every read of the block asks for two bytes, and a successful one comes with
exactly that many (44_bus.md R342). So an answer outside the contract cannot be written
(93_implementation_defined.md I6; log 3). -/
structure BusAnswer where
  status : BusStatus
  first : Byte
  second : Byte
deriving DecidableEq, Repr, Inhabited

/-- The modulation oracle's contract: a finite f32 in [-1, 1], that is a magnitude field of at most
that of 1.0 (42_driver.md R261). -/
abbrev inUnitRange (w : F32) : Bool := w.toNat % 2 ^ 31 ≤ 0x3F800000

/-- One answer of the modulation oracle, a triangle and a sine value inside the contract
(42_driver.md R261; 93_implementation_defined.md I6; log 4). -/
structure ModAnswer where
  tri : F32
  sin : F32
  inRange : inUnitRange tri = true ∧ inUnitRange sin = true
deriving DecidableEq, Repr

/-- PEAK_RESNAP: whether the SUSTAIN peak correction runs every step or once (41_voice.md R211). -/
inductive PeakResnap where
  | everyTick | once
deriving DecidableEq, Repr, Inhabited

/-- The four arithmetic primitives (00_scope.md R10). -/
inductive ArithOp where
  | add | sub | mul | div
deriving DecidableEq, Repr, Inhabited

/-- The implementation parameters of 00_scope.md R6 and R7 but for the sizes. A parameter that is a
function on a finite domain is a table of its DEPARTURES from the default that R6 gives it: the empty
table is the default, and every such function is some table (log 7). An OPEN parameter has no default
in the spec; every statement about all states holds for all of its values (log 6). -/
structure Params where
  /-- MUX_ADDR(c), cluster c at position c (OPEN, R6). -/
  muxAddr : List BusAddr
  /-- INIT_SEQ(f, n), a list of byte lists; no entry means the empty list (OPEN, 44_bus.md R350). -/
  initSeq : List ((Family × BitVec 5) × List (List Byte))
  /-- CHAN_BYTE(f, ch); no entry means ch (44_bus.md R347). -/
  chanByte : List ((Family × BitVec 4) × Byte)
  /-- FRAME_PREFIX(f); no entry means no byte (44_bus.md R347 to R349). -/
  framePrefix : List (Family × List Byte)
  /-- WIRE_PERM(f, n), position k of the frame carries byte P(k); no entry means the identity
  (44_bus.md R348). -/
  wirePerm : List ((Family × BitVec 5) × List Nat)
  /-- ADC_CONFIG(sel, gain, rate); no entry means 44_bus.md R352's default. -/
  adcConfig : List ((BitVec 3 × BitVec 3 × BitVec 3) × Half)
  /-- ADC_PTR_CONFIG (44_bus.md R351). -/
  adcPtrConfig : Byte
  /-- ADC_PTR_CONV (44_bus.md R351). -/
  adcPtrConv : Byte
  /-- ADC_NOTBUSY(w); no entry means w[15] (44_bus.md R353). -/
  adcNotBusy : List (Half × Bool)
  /-- ADC_MUX_CODE(ch); no entry means 4 + ch (44_bus.md R352). -/
  adcMuxCode : List (BitVec 4 × BitVec 3)
  /-- PEAK_RESNAP (41_voice.md R211). -/
  peakResnap : PeakResnap
  /-- BUS_CLOCK_HZ (OPEN, 44_bus.md R343). -/
  busClockHz : Nat
  /-- NODECAY_MS (00_scope.md R7). -/
  noDecayMs : F32
  /-- DECAY_SNAP_MS (00_scope.md R7). -/
  decaySnapMs : F32
  /-- RELEASE_SNAP_MS (00_scope.md R7). -/
  releaseSnapMs : F32
deriving DecidableEq, Repr

/-- The parameters State.reset carries: R6's and R7's defaults, and for the OPEN ones the values the
spec's test vectors take (93_implementation_defined.md I3, I7, I17). DESIGN CHOICE, unsafe for a claim
that rests on the OPEN ones (log 6). -/
def Params.default : Params where
  muxAddr := [0x70#7, 0x71#7, 0x72#7, 0x73#7, 0x74#7, 0x75#7, 0x76#7, 0x77#7]
  initSeq := []
  chanByte := []
  framePrefix := []
  wirePerm := []
  adcConfig := []
  adcPtrConfig := 0x01#8
  adcPtrConv := 0x00#8
  adcNotBusy := []
  adcMuxCode := []
  peakResnap := .everyTick
  busClockHz := 400000
  noDecayMs := 0x41000000#32
  decaySnapMs := 0x41200000#32
  releaseSnapMs := 0x41A00000#32

/-! Free values: nothing constrains them. -/

/-- The bus oracle's answer number n where no answer is scripted: any value of the contract
(93_implementation_defined.md I22; log 3). -/
opaque freeBusAnswer : Nat → BusAnswer

/-- The raw triangle value of TICK number n where none is scripted (93_implementation_defined.md I23;
log 4). -/
opaque freeTriangle : Nat → F32

/-- The raw sine value of TICK number n where none is scripted (93_implementation_defined.md I23;
log 4). -/
opaque freeSine : Nat → F32

/-- The sign and payload of a NaN result: IEEE-754 and the spec leave them open (log 8). -/
opaque freeNaN : ArithOp → F32 → F32 → BitVec 23

/-- The flush frame of an ADC board, which 43_aal.md R293 says is never needed (log 11). -/
opaque freeAdcFrame : Nat → List Byte

end Sys2Proof.Config
end

