-- ==== Sys2Proof/Machine/Arith.lean ====
section
/-! DEFINITION. The arithmetic Arith of 00_scope.md R10: IEEE-754 binary32, each primitive the exact
result rounded once to nearest with ties to even, and the IEEE comparisons.

A finite value is a signed whole number of UNITS, a unit being 2^-149, the smallest subnormal. So every
sum is exact in units, and a product or quotient is an exact fraction of them. -/

namespace Sys2Proof.Machine

open Sys2Proof.Config

/-- Bit 31, the sign (00_scope.md R10). -/
def fSign (w : F32) : Bool := w.getLsbD 31

/-- Bits 30:23, the biased exponent (00_scope.md R10). -/
def fExp (w : F32) : BitVec 8 := w.extractLsb' 23 8

/-- Bits 22:0, the fraction (00_scope.md R10). -/
def fFrac (w : F32) : BitVec 23 := w.extractLsb' 0 23

/-- Finite: w[30:23] ≠ 0xFF (40_host_access.md R184). -/
def fFinite (w : F32) : Bool := fExp w != 0xFF#8

/-- A NaN: exponent 0xFF and a non-zero fraction. -/
def fNaN (w : F32) : Bool := fExp w == 0xFF#8 && fFrac w != 0#23

/-- An infinity: exponent 0xFF and a zero fraction. -/
def fInf (w : F32) : Bool := fExp w == 0xFF#8 && fFrac w == 0#23

/-- The bits below the sign. -/
def fMag (w : F32) : Nat := w.toNat % 2 ^ 31

/-- The magnitude of a finite value in units of 2^-149. -/
def fUnits (w : F32) : Nat :=
  if fExp w = 0#8 then (fFrac w).toNat
  else ((fFrac w).toNat + 2 ^ 23) <<< ((fExp w).toNat - 1)

/-- A finite value as a signed number of units. -/
def fInt (w : F32) : Int := if fSign w then -(fUnits w : Int) else (fUnits w : Int)

/-- num / den rounded to the nearest whole number, ties to even. -/
def roundEven (num den : Nat) : Nat :=
  let q := num / den
  let r := num % den
  if 2 * r > den ∨ (2 * r = den ∧ q % 2 = 1) then q + 1 else q

/-- The magnitude bits of num / den units rounded once to binary32, to infinity on overflow. The shift k
is the distance of the value's binade from the smallest; a significand that rounds up to the next binade
carries into the exponent by itself. -/
def roundMag (num den : Nat) : Nat :=
  let q := num / den
  let k := if q < 2 ^ 24 then 0 else q.log2 - 23
  min (roundEven num (den <<< k) + k * 2 ^ 23) 0x7F800000

/-- The magnitude bits with a sign. -/
def withSign (neg : Bool) (mag : Nat) : F32 := ofBit neg ++ BitVec.ofNat 31 mag

/-- An infinity or a zero of the given sign. -/
def signedInf (neg : Bool) : F32 := withSign neg 0x7F800000

/-- The quiet NaN an operation answers; its sign and payload are free (log 8). -/
def nanResult (op : ArithOp) (a b : F32) : F32 :=
  let p := freeNaN op a b
  p.extractLsb' 22 1 ++ 0x1FF#9 ++ p.extractLsb' 0 22

/-- The sum of two values that are not NaN; the sign of an exact zero sum is + unless both are - (log 8). -/
def addNumbers (op : ArithOp) (x y a b : F32) : F32 :=
  if fInf a then (if fInf b && fSign a != fSign b then nanResult op x y else a)
  else if fInf b then b
  else
    let sum := fInt a + fInt b
    if sum = 0 then withSign (fSign a && fSign b) 0
    else withSign (sum < 0) (roundMag sum.natAbs 1)

/-- The value with its sign turned. -/
def fNeg (w : F32) : F32 := ofBit (!fSign w) ++ w.extractLsb' 0 31

/-- fadd (00_scope.md R10). -/
def fadd (a b : F32) : F32 :=
  if fNaN a || fNaN b then nanResult .add a b else addNumbers .add a b a b

/-- fsub (00_scope.md R10). -/
def fsub (a b : F32) : F32 :=
  if fNaN a || fNaN b then nanResult .sub a b else addNumbers .sub a b a (fNeg b)

/-- fmul (00_scope.md R10). -/
def fmul (a b : F32) : F32 :=
  let neg := fSign a != fSign b
  if fNaN a || fNaN b then nanResult .mul a b
  else if fInf a || fInf b then
    (if fMag a = 0 ∨ fMag b = 0 then nanResult .mul a b else signedInf neg)
  else withSign neg (roundMag (fUnits a * fUnits b) (1 <<< 149))

/-- fdiv (00_scope.md R10). -/
def fdiv (a b : F32) : F32 :=
  let neg := fSign a != fSign b
  if fNaN a || fNaN b then nanResult .div a b
  else if fInf a then (if fInf b then nanResult .div a b else signedInf neg)
  else if fInf b then withSign neg 0
  else if fMag b = 0 then (if fMag a = 0 then nanResult .div a b else signedInf neg)
  else withSign neg (roundMag (fUnits a <<< 149) (fUnits b))

/-- The place of a value that is not NaN in the order of the reals with both infinities; both zeros are
at 0. The order of the magnitude bits is that of the magnitudes. -/
def fKey (w : F32) : Int := if fSign w then -(fMag w : Int) else (fMag w : Int)

/-- Neither is a NaN. -/
def fOrdered (a b : F32) : Bool := !fNaN a && !fNaN b

/-- flt (00_scope.md R10). -/
def flt (a b : F32) : Bool := fOrdered a b && decide (fKey a < fKey b)
/-- fle (00_scope.md R10). -/
def fle (a b : F32) : Bool := fOrdered a b && decide (fKey a ≤ fKey b)
/-- fgt (00_scope.md R10). -/
def fgt (a b : F32) : Bool := fOrdered a b && decide (fKey b < fKey a)
/-- fge (00_scope.md R10). -/
def fge (a b : F32) : Bool := fOrdered a b && decide (fKey b ≤ fKey a)
/-- feq (00_scope.md R10). -/
def feq (a b : F32) : Bool := fOrdered a b && decide (fKey a = fKey b)
/-- fne: true where a comparison has a NaN (00_scope.md R10). -/
def fne (a b : F32) : Bool := !feq a b

/-- 0.0 (30_encoding.md R155). -/
def fZero : F32 := 0x00000000#32
/-- 1.0 (30_encoding.md R155). -/
def fOne : F32 := 0x3F800000#32
/-- 65535.0 (30_encoding.md R155). -/
def f65535 : F32 := 0x477FFF00#32

/-- clamp01 (00_scope.md R10). -/
def clamp01 (x : F32) : F32 :=
  if flt x fZero then fZero else if fgt x fOne then fOne else x

/-- ToCode: truncation with saturation (41_voice.md R217). -/
def toCode (x : F32) : Half :=
  if !fgt x fZero then 0#16
  else if fge x f65535 then 65535#16
  else BitVec.ofNat 16 (fUnits x >>> 149)

end Sys2Proof.Machine
end

