-- ==== Sys2Proof/Syntax.lean ====
section
/-! DEFINITION. The instructions of spec/opcode_table.json, one constructor a row: the two host
accesses (30_encoding.md R141) and the fifteen commands (30_encoding.md R144). -/

namespace Sys2Proof

/-- The instructions, with their operands at the widths 30_encoding.md R141, R145 and R146 give. -/
inductive Instr where
  /-- RD: a host read of a word address (40_host_access.md R180). -/
  | rd (addr : HostAddr)
  /-- WR: a host write of a word to a word address (40_host_access.md R181). -/
  | wr (addr : HostAddr) (data : Word)
  /-- NOP (43_aal.md R299). -/
  | nop
  /-- NEWVOICE: bind voice v to a group and an output channel (41_voice.md R201). -/
  | newvoice (v : Byte) (group : BitVec 4) (channel : Byte)
  /-- START: note on (41_voice.md R202). -/
  | start (v : Byte)
  /-- END: note off (41_voice.md R203). -/
  | endNote (v : Byte)
  /-- PROCESS: advance one voice by TICK_DT (41_voice.md R204). -/
  | process (v : Byte)
  /-- UPDATE: write the voice's output through the AAL (41_voice.md R215). -/
  | update (v : Byte)
  /-- TICK: one control-loop tick (42_driver.md R260). -/
  | tick
  /-- BEGIN: build the tables and bring up the bus (43_aal.md R280). -/
  | beginAal
  /-- SETAO: set an analog output (43_aal.md R290). -/
  | setao (d : Byte) (value : Half)
  /-- SETDO: set a digital output (43_aal.md R291). -/
  | setdo (d : Byte) (value : BitVec 1)
  /-- FLUSH: write all pending values to the bus (43_aal.md R292). -/
  | flush
  /-- STARTCONV: start a single conversion (43_aal.md R295). -/
  | startconv (d : Byte)
  /-- POLL: check for a completed conversion (43_aal.md R296). -/
  | poll
  /-- VALIDATE: probe one board (43_aal.md R297). -/
  | validate (b : Byte)
  /-- RESETBOARD: probe, initialise and clear one board (43_aal.md R298). -/
  | resetboard (b : Byte)
deriving DecidableEq, Repr

end Sys2Proof
end

