-- ==== Sys2Proof/Decode.lean ====
section
/-! DEFINITION. The decoder, total and rejecting by name, and the encoder (30_encoding.md R140 to
R148, R158). Where a word arrives decides its format (R140), so the decoder is told the format. -/

namespace Sys2Proof

/-- An encoded instruction in the format its row of spec/opcode_table.json has (30_encoding.md R140). -/
inductive Code where
  /-- A 64-bit host access frame (R141). -/
  | frame (w : Frame)
  /-- A 32-bit command word, the data of a host write to CMD (R143). -/
  | command (w : Word)
deriving DecidableEq, Repr

/-- Why the decoder refuses a word. -/
inductive Reject where
  /-- A host frame with RES ≠ 0, or a read frame with DATA ≠ 0 (30_encoding.md R142). -/
  | malformedFrame
  /-- A command word with a reserved opcode (30_encoding.md R147; check 1 of R148). -/
  | reservedOpcode
  /-- A command word with a non-zero must-be-zero field (check 2 of 30_encoding.md R148). -/
  | nonzeroField
deriving DecidableEq, Repr

/-- The word address of the register CMD (10_state.md R32). -/
abbrev cmdAddr : HostAddr := 0x0008#16

/-! ### Fields -/

/-- W of a host frame (30_encoding.md R141). -/
def frameW (f : Frame) : Bool := f.getLsbD 63
/-- RES of a host frame (30_encoding.md R141). -/
def frameRes (f : Frame) : BitVec 15 := f.extractLsb' 48 15
/-- ADDR of a host frame (30_encoding.md R141). -/
def frameAddr (f : Frame) : HostAddr := f.extractLsb' 32 16
/-- DATA of a host frame (30_encoding.md R141). -/
def frameData (f : Frame) : Word := f.extractLsb' 0 32
/-- OPC of a command word (30_encoding.md R143). -/
def cmdOpc (w : Word) : Byte := w.extractLsb' 24 8
/-- IDX of a command word (30_encoding.md R143). -/
def cmdIdx (w : Word) : Byte := w.extractLsb' 16 8
/-- IMM of a command word (30_encoding.md R143). -/
def cmdImm (w : Word) : Half := w.extractLsb' 0 16

/-! ### Decoding -/

/-- A host access frame (30_encoding.md R141, R142). -/
def decodeFrame (f : Frame) : Except Reject Instr :=
  if frameRes f ≠ 0#15 then .error .malformedFrame
  else if frameW f then .ok (.wr (frameAddr f) (frameData f))
  else if frameData f ≠ 0#32 then .error .malformedFrame
  else .ok (.rd (frameAddr f))

/-- An instruction whose must-be-zero fields are zero, or the refusal (check 2 of R148). -/
def whenZero (zero : Bool) (i : Instr) : Except Reject Instr :=
  if zero then .ok i else .error .nonzeroField

/-- A command word: checks 1 and 2 of 30_encoding.md R148, with the opcodes of R144 and the operands
of R145 and R146. Check 3 reads the state and is made by the meanings (log 14). -/
def decodeCommand (w : Word) : Except Reject Instr :=
  let idx := cmdIdx w
  let imm := cmdImm w
  match (cmdOpc w).toNat with
  | 0x00 => whenZero (idx == 0#8 && imm == 0#16) .nop
  | 0x01 => whenZero (imm.extractLsb' 12 4 == 0#4) (.newvoice idx (imm.extractLsb' 8 4) (imm.extractLsb' 0 8))
  | 0x02 => whenZero (imm == 0#16) (.start idx)
  | 0x03 => whenZero (imm == 0#16) (.endNote idx)
  | 0x04 => whenZero (imm == 0#16) (.process idx)
  | 0x05 => whenZero (imm == 0#16) (.update idx)
  | 0x06 => whenZero (idx == 0#8 && imm == 0#16) .tick
  | 0x10 => whenZero (idx == 0#8 && imm == 0#16) .beginAal
  | 0x11 => .ok (.setao idx imm)
  | 0x12 => whenZero (imm.extractLsb' 1 15 == 0#15) (.setdo idx (imm.extractLsb' 0 1))
  | 0x13 => whenZero (idx == 0#8 && imm == 0#16) .flush
  | 0x14 => whenZero (imm == 0#16) (.startconv idx)
  | 0x15 => whenZero (idx == 0#8 && imm == 0#16) .poll
  | 0x16 => whenZero (imm == 0#16) (.validate idx)
  | 0x17 => whenZero (imm == 0#16) (.resetboard idx)
  | _ => .error .reservedOpcode

/-- The decoder of an encoded instruction of either format. -/
def decode : Code → Except Reject Instr
  | .frame f => decodeFrame f
  | .command w => decodeCommand w

/-! ### Encoding -/

/-- A command word from its opcode, IDX and IMM (30_encoding.md R143). -/
def commandWord (opc idx : Byte) (imm : Half) : Word := opc ++ idx ++ imm

/-- The encoding of an instruction, from the same tables (30_encoding.md R141, R144, R146). -/
def encode : Instr → Code
  | .rd a => .frame (0x0000#16 ++ a ++ 0x00000000#32)
  | .wr a d => .frame (0x8000#16 ++ a ++ d)
  | .nop => .command (commandWord 0x00#8 0#8 0#16)
  | .newvoice v g ch => .command (commandWord 0x01#8 v (0#4 ++ g ++ ch))
  | .start v => .command (commandWord 0x02#8 v 0#16)
  | .endNote v => .command (commandWord 0x03#8 v 0#16)
  | .process v => .command (commandWord 0x04#8 v 0#16)
  | .update v => .command (commandWord 0x05#8 v 0#16)
  | .tick => .command (commandWord 0x06#8 0#8 0#16)
  | .beginAal => .command (commandWord 0x10#8 0#8 0#16)
  | .setao d value => .command (commandWord 0x11#8 d value)
  | .setdo d value => .command (commandWord 0x12#8 d (0#15 ++ value))
  | .flush => .command (commandWord 0x13#8 0#8 0#16)
  | .startconv d => .command (commandWord 0x14#8 d 0#16)
  | .poll => .command (commandWord 0x15#8 0#8 0#16)
  | .validate b => .command (commandWord 0x16#8 b 0#16)
  | .resetboard b => .command (commandWord 0x17#8 b 0#16)

/-- The host frame that carries an encoded instruction: a command word is the data of a write to CMD
(30_encoding.md R158). -/
def Code.hostFrame : Code → Frame
  | .frame f => f
  | .command w => 0x8000#16 ++ cmdAddr ++ w

/-- The encoded instruction that a row of spec/opcode_table.json of `nbits` bits means by `w`: a row of
32 bits or fewer is a command word, a wider one a host frame (log 18). -/
def tableCode (nbits w : Nat) : Code :=
  if nbits ≤ 32 then .command (BitVec.ofNat 32 w) else .frame (BitVec.ofNat 64 w)

/-- The instruction the decoder reads from a word numbered as spec/opcode_table.json numbers it. -/
def decodeTableWord (nbits w : Nat) : Option Instr :=
  match decode (tableCode nbits w) with
  | .ok i => some i
  | .error _ => none

end Sys2Proof
end

