-- ==== Sys2Proof/Machine/State.lean ====
section
/-! DEFINITION. The state of the block as plain data, the ways a step can stop, and reset
(10_state.md R30 to R69; INVENTORY.md, heading State). -/

namespace Sys2Proof.Machine

open Sys2Proof.Config

/-- The envelope states with their codes (10_state.md R50). Codes 6 and 7 are illegal and kept, so that
InvariantViolation has a defined step in every state (41_voice.md R213; log 13). -/
inductive EnvState where
  | idle | start | attack | decay | sustain | release | illegal6 | illegal7
deriving DecidableEq, Repr, Inhabited

/-- The damper mode (10_state.md R49). -/
inductive DamperMode where
  | normal | invert
deriving DecidableEq, Repr, Inhabited

/-- One voice: its register window and flags (10_state.md R48 to R62). -/
structure Voice where
  mute : Bool
  modEn : Bool
  dualUse : Bool
  dmode : DamperMode
  pedal : Bool
  state : EnvState
  active : Bool
  trigEnd : Bool
  peak : Bool
  noDecay : Bool
  dirty : Bool
  bound : Bool
  channel : Byte
  group : BitVec 4
  top : F32
  bottom : F32
  sustain : F32
  attackMs : F32
  decayMs : F32
  releaseMs : F32
  scale : F32
  expr : F32
  modScale : F32
  current : F32
  timer : F32
  delta : F32
  target : F32
  susCap : F32
  lastCode : Half
deriving DecidableEq, Repr

/-- A voice after reset (10_state.md R68). -/
def Voice.reset : Voice where
  mute := false
  modEn := false
  dualUse := false
  dmode := .normal
  pedal := false
  state := .idle
  active := false
  trigEnd := false
  peak := false
  noDecay := false
  dirty := false
  bound := false
  channel := 0#8
  group := 0#4
  top := 0#32
  bottom := 0#32
  sustain := 0#32
  attackMs := 0#32
  decayMs := 0#32
  releaseMs := 0#32
  scale := 0#32
  expr := 0x3F800000#32
  modScale := 0#32
  current := 0#32
  timer := 0#32
  delta := 0#32
  target := 0#32
  susCap := 0#32
  lastCode := 0#16

/-- One entry of the board table with the board's output buffer (10_state.md R63, R64). A cluster of
`none` is the spec's -1, no multiplexer. -/
structure Board where
  cluster : Option (BitVec 3)
  slice : BitVec 3
  addr : BusAddr
  family : Family
  valid : Bool
  dirty : BitVec 16
  nch : BitVec 5
  kind : Kind
  buf : List Half
deriving DecidableEq, Repr

/-- What a board entry at or beyond NBOARDS reads as: every field 0 (10_state.md R63; 43_aal.md R281;
log 10). -/
def Board.zero : Board where
  cluster := some 0#3
  slice := 0#3
  addr := 0#7
  family := .dacSel
  valid := false
  dirty := 0#16
  nch := 0#5
  kind := .ao
  buf := List.replicate maxCh 0#16

/-- One entry of the logical device table (10_state.md R65). -/
structure Device where
  board : Byte
  channel : BitVec 4
  kind : Kind
  adcSel : BitVec 3
deriving DecidableEq, Repr

/-- What a device entry at or beyond NDEVICES reads as: every field 0 (10_state.md R65; log 10). -/
def Device.zero : Device where
  board := 0#8
  channel := 0#4
  kind := .ao
  adcSel := 0#3

/-- One board descriptor as the host wrote it (10_state.md R47). -/
structure Descriptor where
  w0 : Word
  w1 : Word
deriving DecidableEq, Repr

/-- A terminator, the reset value of every descriptor (10_state.md R47). -/
def Descriptor.terminator : Descriptor where
  w0 := 0x000000FF#32
  w1 := 0x00000000#32

/-- LAST_ERR (10_state.md R40). -/
structure LastErr where
  opc : Byte
  index : Byte
  code : Byte
deriving DecidableEq, Repr

/-- The kind of a bus transaction (20_memory.md R112). -/
inductive TxnKind where
  | write | read | probe
deriving DecidableEq, Repr

/-- The severity of a log message (20_memory.md R112). INFO is reserved and never emitted
(60_exceptions.md R377). -/
inductive Severity where
  | error | info
deriving DecidableEq, Repr

/-- The subsystem label of a log message (20_memory.md R112). -/
inductive Subsystem where
  | env | aal
deriving DecidableEq, Repr

/-- The events of the trace (20_memory.md R112). The raw sample of SampleReady is an s16, held as its
two's-complement bits. -/
inductive Event where
  | busInit (hz : Nat)
  | txn (kind : TxnKind) (addr : BusAddr) (bytesOut : List Byte) (nIn : Nat) (status : BusStatus)
      (bytesIn : List Byte)
  | modTick (dt : F32)
  | sampleReady (raw : Half)
  | log (severity : Severity) (subsystem : Subsystem) (code index : Byte)
deriving DecidableEq, Repr

/-- The whole state. NUM_VOICES and NUM_GROUPS are the lengths of `voices` and `groupCount`
(00_scope.md R6), NBOARDS and NDEVICES those of `boards` and `devices` (10_state.md R42). The last six
fields are the model's own (INVENTORY.md; logs 1 to 6). -/
structure State where
  /-- GCTRL.MOD_SEL (10_state.md R35): false is the triangle value, true the sine value. -/
  modSel : Bool
  /-- ERR (10_state.md R39). -/
  err : BitVec 9
  /-- LAST_ERR (10_state.md R40). -/
  lastErr : LastErr
  /-- TICK_DT (10_state.md R36). -/
  tickDt : F32
  /-- MOD_TRI (10_state.md R37). -/
  modTri : F32
  /-- MOD_SIN (10_state.md R37). -/
  modSin : F32
  /-- BEGIN_RESULT (10_state.md R41). -/
  beginResult : Word
  /-- AALSTAT.BEGUN (10_state.md R42). -/
  begun : Bool
  /-- CONV_STATUS.AWAITING (10_state.md R43). -/
  awaiting : Bool
  /-- CONV_STATUS.READY (10_state.md R43). -/
  ready : Bool
  /-- CONV_STATUS.AWAIT_DEV (10_state.md R43). -/
  awaitDev : Byte
  /-- CONV_RESULT (10_state.md R44). -/
  convResult : Word
  /-- ADC_CFG.GAIN (10_state.md R45). -/
  adcGain : BitVec 3
  /-- ADC_CFG.RATE (10_state.md R45). -/
  adcRate : BitVec 3
  /-- GROUP_COUNT[g] (10_state.md R46). -/
  groupCount : List Byte
  /-- CFG_W0[i] and CFG_W1[i] (10_state.md R47). -/
  table : List Descriptor
  /-- B[b] and BUF[b], b < NBOARDS (10_state.md R63, R64). -/
  boards : List Board
  /-- D[d], d < NDEVICES (10_state.md R65). -/
  devices : List Device
  /-- V[v], v < NUM_VOICES (10_state.md R48). -/
  voices : List Voice
  /-- The event trace, oldest first (20_memory.md R112). -/
  trace : List Event
  /-- The implementation parameters (00_scope.md R6, R7; log 6). -/
  params : Params
  /-- The host accesses yet to be issued, the next one first (log 1). -/
  frames : List Frame
  /-- The words the reads so far returned to the host, oldest first (30_encoding.md R141; log 2). -/
  replies : List Word
  /-- The bus oracle's answers to come, the next one first (log 3). -/
  busAnswers : List BusAnswer
  /-- The modulation oracle's answers to come, the next one first (log 4). -/
  modAnswers : List ModAnswer
  /-- How many free values were drawn (log 5). -/
  freeIndex : Nat
deriving DecidableEq, Repr

/-- The faults that stop the machine: none. Nothing the block does traps or aborts (60_exceptions.md
R370); an error is recorded and the block goes on. -/
inductive Fault where
deriving DecidableEq, Repr

/-- The refusals. -/
inductive Refusal where
  /-- Raised by an arm of exec whose instruction has no meaning yet; safe. No arm raises it. -/
  | notModelled (mnemonic : String)
deriving DecidableEq, Repr

/-- The machine right after reset (10_state.md R68; 70_reset_and_hazards.md R400). -/
def State.reset : State where
  modSel := false
  err := 0#9
  lastErr := { opc := 0#8, index := 0#8, code := 0#8 }
  tickDt := 0#32
  modTri := 0#32
  modSin := 0#32
  beginResult := 0xFFFFFFFF#32
  begun := false
  awaiting := false
  ready := false
  awaitDev := 0#8
  convResult := 0#32
  adcGain := 0#3
  adcRate := 0#3
  groupCount := List.replicate defaultGroups 0#8
  table := List.replicate maxBoards Descriptor.terminator
  boards := []
  devices := []
  voices := List.replicate defaultVoices Voice.reset
  trace := []
  params := Params.default
  frames := []
  replies := []
  busAnswers := []
  modAnswers := []
  freeIndex := 0

end Sys2Proof.Machine
end

