-- ==== Sys2Proof/Machine/Flags.lean ====
section
/-! DEFINITION. The error kinds with their codes and ERR bits, and the packing of flags and fields into
the words a host read returns (60_exceptions.md R371, R373; 10_state.md R33 to R65). -/

namespace Sys2Proof.Machine

open Sys2Proof.Config

/-! ### Errors -/

/-- The error kinds (60_exceptions.md R371). -/
inductive ErrorKind where
  | busTransaction (st : BusStatus)
  | boardUnreachable
  | configurationEmpty
  | configurationMalformed
  | invalidLogicalDevice
  | badCommand
  | paramRejected
  | voiceInvariant
  | badRegister
deriving DecidableEq, Repr

/-- The number of a bus status (44_bus.md R341). -/
def statusCode : BusStatus → Byte
  | .ok => 0#8
  | .bufferOverflow => 1#8
  | .addressNack => 2#8
  | .dataNack => 3#8
  | .other => 4#8
  | .timeout => 5#8

/-- The code of an error (60_exceptions.md R373). -/
def errorCode : ErrorKind → Byte
  | .busTransaction st => statusCode st
  | .boardUnreachable => 0x10#8
  | .configurationEmpty => 0x11#8
  | .configurationMalformed => 0x12#8
  | .invalidLogicalDevice => 0x13#8
  | .badCommand => 0x20#8
  | .paramRejected => 0x21#8
  | .voiceInvariant => 0x22#8
  | .badRegister => 0x23#8

/-- The number of an error's ERR bit (60_exceptions.md R373). -/
def errorBit : ErrorKind → Nat
  | .busTransaction _ => 3
  | .boardUnreachable => 4
  | .configurationEmpty => 5
  | .configurationMalformed => 6
  | .invalidLogicalDevice => 1
  | .badCommand => 0
  | .paramRejected => 2
  | .voiceInvariant => 7
  | .badRegister => 8

/-- The ERR word with just that error's bit. -/
def errorMask (e : ErrorKind) : BitVec 9 := 1#9 <<< errorBit e

/-- The subsystem label of an error's log message (60_exceptions.md R372). -/
def subsystemOf (code op : Byte) : Subsystem :=
  if (0x01 ≤ code.toNat ∧ code.toNat ≤ 0x13) ∨ (0x10 ≤ op.toNat ∧ op.toNat ≤ 0x17) then .aal
  else .env

/-! ### Codes of enumerated fields -/

/-- The code of STATE (10_state.md R50). -/
def stateCode : EnvState → BitVec 3
  | .idle => 0#3
  | .start => 1#3
  | .attack => 2#3
  | .decay => 3#3
  | .sustain => 4#3
  | .release => 5#3
  | .illegal6 => 6#3
  | .illegal7 => 7#3

/-- The code of KIND (10_state.md R63, R65). -/
def kindCode : Kind → BitVec 2
  | .ao => 0#2
  | .ai => 1#2
  | .do_ => 2#2

/-- The code of FAMILY (30_encoding.md R151). -/
def familyCode : Family → BitVec 3
  | .dacSel => 0#3
  | .dacFull => 1#3
  | .adc => 2#3
  | .gpio => 3#3

/-- CLUSTER as an s8: 0xFF where there is no multiplexer (10_state.md R63). -/
def clusterByte : Option (BitVec 3) → Byte
  | none => 0xFF#8
  | some c => c.setWidth 8

/-- DMODE: 0 NORMAL, 1 INVERT (10_state.md R49). -/
def dmodeBit : DamperMode → Bool
  | .normal => false
  | .invert => true

/-- DMODE from its bit (10_state.md R49). -/
def dmodeOfBit (b : Bool) : DamperMode := if b then .invert else .normal

/-! ### Voice words -/

/-- VCTRL as read (10_state.md R49). -/
def vctrlWord (v : Voice) : Word :=
  0#27 ++ ofBit v.pedal ++ ofBit (dmodeBit v.dmode) ++ ofBit v.dualUse ++ ofBit v.modEn ++ ofBit v.mute

/-- VCTRL as written: bits 4..0 are stored and DIRTY is set (40_host_access.md R181, R186). -/
def Voice.writeVctrl (w : Word) (v : Voice) : Voice :=
  { v with
    mute := w.getLsbD 0
    modEn := w.getLsbD 1
    dualUse := w.getLsbD 2
    dmode := dmodeOfBit (w.getLsbD 3)
    pedal := w.getLsbD 4
    dirty := true }

/-- VSTAT as read (10_state.md R50). -/
def vstatWord (v : Voice) : Word :=
  0#23 ++ ofBit v.bound ++ ofBit v.dirty ++ ofBit v.noDecay ++ ofBit v.peak ++ ofBit v.trigEnd
    ++ ofBit v.active ++ stateCode v.state

/-- VBIND as read (10_state.md R51). -/
def vbindWord (v : Voice) : Word := 0#20 ++ v.group ++ v.channel

/-- LASTCODE as read (10_state.md R62). -/
def lastCodeWord (v : Voice) : Word := 0#16 ++ v.lastCode

/-! ### Board and device words -/

/-- BSTAT0 of an entry of the board table (10_state.md R63). -/
def bstat0Word (b : Board) : Word :=
  ofBit b.valid ++ 0#8 ++ familyCode b.family ++ 0#1 ++ b.addr ++ 0#1 ++ b.slice ++ clusterByte b.cluster

/-- BSTAT1 of an entry of the board table (10_state.md R63). -/
def bstat1Word (b : Board) : Word := 0#9 ++ kindCode b.kind ++ b.nch ++ b.dirty

/-- DEV of an entry of the device table, PRESENT being 1 (10_state.md R65). -/
def devWord (d : Device) : Word :=
  1#1 ++ 0#12 ++ d.adcSel ++ 0#2 ++ kindCode d.kind ++ d.channel ++ d.board

/-! ### Global words -/

/-- ID (10_state.md R33). -/
def idWord : Word := 0x41445352#32

/-- PARAMS (10_state.md R34). -/
def paramsWord (s : State) : Word :=
  BitVec.ofNat 8 maxCh ++ BitVec.ofNat 8 maxBoards ++ BitVec.ofNat 8 s.groupCount.length
    ++ BitVec.ofNat 8 s.voices.length

/-- GCTRL (10_state.md R35). -/
def gctrlWord (s : State) : Word := 0#31 ++ ofBit s.modSel

/-- ERR (10_state.md R39). -/
def errWord (s : State) : Word := 0#23 ++ s.err

/-- LAST_ERR (10_state.md R40). -/
def lastErrWord (s : State) : Word := 0#8 ++ s.lastErr.opc ++ s.lastErr.index ++ s.lastErr.code

/-- AALSTAT (10_state.md R42). -/
def aalstatWord (s : State) : Word :=
  0#7 ++ BitVec.ofNat 9 s.devices.length ++ BitVec.ofNat 8 s.boards.length ++ 0#7 ++ ofBit s.begun

/-- CONV_STATUS (10_state.md R43). -/
def convStatusWord (s : State) : Word :=
  0#16 ++ s.awaitDev ++ 0#6 ++ ofBit s.ready ++ ofBit s.awaiting

/-- ADC_CFG (10_state.md R45). -/
def adcCfgWord (s : State) : Word := 0#26 ++ s.adcRate ++ s.adcGain

end Sys2Proof.Machine
end

