-- ==== Sys2Proof/Machine/Operands.lean ====
section
/-! DEFINITION. The operand forms: a host address as a register of the map (20_memory.md R102), a board
descriptor (30_encoding.md R151 to R154), and the parameters with their defaults (00_scope.md R6). -/

namespace Sys2Proof.Machine

open Sys2Proof.Config

/-! ### Host addresses -/

/-- The registers of a voice window (10_state.md R48). -/
inductive VoiceReg where
  | vctrl | vstat | vbind | top | bottom | sustain | attackMs | decayMs | releaseMs | scale | expr
  | modScale | current | timer | delta | target | susCap | lastCode
deriving DecidableEq, Repr

/-- The registers of the host register map (20_memory.md R102). -/
inductive Reg where
  | id | params | gctrl | err | lastErr | tickDt | modTri | modSin | cmd | beginResult | aalstat
  | convStatus | convResult | adcCfg
  | groupCount (g : Nat)
  | cfgW0 (i : Nat)
  | cfgW1 (i : Nat)
  | bstat0 (b : Nat)
  | bstat1 (b : Nat)
  | buf (b ch : Nat)
  | dev (d : Nat)
  | voice (v : Nat) (r : VoiceReg)
deriving DecidableEq, Repr

/-- The register at an offset of a voice window (10_state.md R48). -/
def voiceRegAt : Nat → Option VoiceReg
  | 0x00 => some .vctrl
  | 0x01 => some .vstat
  | 0x02 => some .vbind
  | 0x03 => some .top
  | 0x04 => some .bottom
  | 0x05 => some .sustain
  | 0x06 => some .attackMs
  | 0x07 => some .decayMs
  | 0x08 => some .releaseMs
  | 0x09 => some .scale
  | 0x0A => some .expr
  | 0x0B => some .modScale
  | 0x0C => some .current
  | 0x0D => some .timer
  | 0x0E => some .delta
  | 0x0F => some .target
  | 0x10 => some .susCap
  | 0x11 => some .lastCode
  | _ => none

/-- The global register at an address below 0x20 (10_state.md R32). -/
def globalRegAt : Nat → Option Reg
  | 0x00 => some .id
  | 0x01 => some .params
  | 0x02 => some .gctrl
  | 0x03 => some .err
  | 0x04 => some .lastErr
  | 0x05 => some .tickDt
  | 0x06 => some .modTri
  | 0x07 => some .modSin
  | 0x08 => some .cmd
  | 0x09 => some .beginResult
  | 0x0A => some .aalstat
  | 0x0B => some .convStatus
  | 0x0C => some .convResult
  | 0x0D => some .adcCfg
  | _ => none

/-- The register at a host address, or none where the address is unmapped (20_memory.md R101, R102). -/
def regAt (numVoices numGroups : Nat) (addr : HostAddr) : Option Reg :=
  let a := addr.toNat
  if a < 0x20 then globalRegAt a
  else if a < 0x40 then (if a - 0x20 < numGroups then some (.groupCount (a - 0x20)) else none)
  else if a < 0x60 then
    some (if a % 2 = 0 then .cfgW0 ((a - 0x40) / 2) else .cfgW1 ((a - 0x40) / 2))
  else if a < 0x100 then none
  else if a < 0x120 then
    some (if a % 2 = 0 then .bstat0 ((a - 0x100) / 2) else .bstat1 ((a - 0x100) / 2))
  else if a < 0x200 then none
  else if a < 0x300 then some (.buf ((a - 0x200) / 16) (a % 16))
  else if a < 0x400 then none
  else if a < 0x500 then some (.dev (a - 0x400))
  else if a < 0x1000 then none
  else if (a - 0x1000) / 0x20 < numVoices then
    (voiceRegAt (a % 0x20)).map (Reg.voice ((a - 0x1000) / 0x20))
  else none

/-- idx(a): v for a register of voice v's window, 0 otherwise (40_host_access.md R181). -/
def regIndex : Reg → Byte
  | .voice v _ => BitVec.ofNat 8 v
  | _ => 0#8

/-! ### Board descriptors -/

/-- CLUSTER as a raw byte (30_encoding.md R151). -/
def Descriptor.cluster (d : Descriptor) : Byte := d.w0.extractLsb' 0 8
/-- SLICE (30_encoding.md R151). -/
def Descriptor.slice (d : Descriptor) : BitVec 3 := d.w0.extractLsb' 8 3
/-- ADDR (30_encoding.md R151). -/
def Descriptor.addr (d : Descriptor) : BusAddr := d.w0.extractLsb' 12 7
/-- FAMILY as its code (30_encoding.md R151). -/
def Descriptor.familyField (d : Descriptor) : BitVec 3 := d.w0.extractLsb' 20 3
/-- N_AO (30_encoding.md R152). -/
def Descriptor.nAo (d : Descriptor) : Byte := d.w1.extractLsb' 0 8
/-- N_AI (30_encoding.md R152). -/
def Descriptor.nAi (d : Descriptor) : Byte := d.w1.extractLsb' 8 8
/-- N_DO (30_encoding.md R152). -/
def Descriptor.nDo (d : Descriptor) : Byte := d.w1.extractLsb' 16 8

/-- A terminator: CLUSTER = -1 and every count 0 (30_encoding.md R153). -/
def Descriptor.isTerminator (d : Descriptor) : Bool :=
  d.cluster == 0xFF#8 && d.nAo == 0#8 && d.nAi == 0#8 && d.nDo == 0#8

/-- CLUSTER as no multiplexer, a cluster, or an illegal value (30_encoding.md R154 (a)). -/
def clusterOf (c : Byte) : Option (Option (BitVec 3)) :=
  if c = 0xFF#8 then some none
  else if c.toNat < maxClusters then some (some (c.setWidth 3))
  else none

/-- FAMILY from its code; codes 4..7 are reserved (30_encoding.md R151). -/
def familyOf : BitVec 3 → Option Family
  | 0#3 => some .dacSel
  | 1#3 => some .dacFull
  | 2#3 => some .adc
  | 3#3 => some .gpio
  | _ => none

/-- The one non-zero count with its capability, or none (30_encoding.md R154 (d)). -/
def Descriptor.capability (d : Descriptor) : Option (Byte × Kind) :=
  match d.nAo != 0#8, d.nAi != 0#8, d.nDo != 0#8 with
  | true, false, false => some (d.nAo, .ao)
  | false, true, false => some (d.nAi, .ai)
  | false, false, true => some (d.nDo, .do_)
  | _, _, _ => none

/-- The family a capability needs (30_encoding.md R154 (f)). -/
def familyFits : Kind → Family → Bool
  | .ao, .dacSel => true
  | .ao, .dacFull => true
  | .ai, .adc => true
  | .do_, .gpio => true
  | _, _ => false

/-- Every res field of both words is 0 (30_encoding.md R154 (c)). -/
def Descriptor.reservedZero (d : Descriptor) : Bool :=
  d.w0.extractLsb' 11 1 == 0#1 && d.w0.extractLsb' 19 1 == 0#1 && d.w0.extractLsb' 23 9 == 0#9
    && d.w1.extractLsb' 24 8 == 0#8

/-- The board a well-formed descriptor describes, freshly built (43_aal.md R281), or none where the
descriptor is malformed (30_encoding.md R154). -/
def Descriptor.board? (d : Descriptor) : Option Board :=
  match clusterOf d.cluster, familyOf d.familyField, d.capability with
  | some cluster, some family, some (n, kind) =>
    if (cluster.isSome || d.slice == 0#3) && d.reservedZero
        && decide (n.toNat ≤ maxCh) && (family != .adc || decide (n.toNat ≤ adcMaxCh))
        && familyFits kind family then
      some
        { cluster := cluster, slice := d.slice, addr := d.addr, family := family, valid := false,
          dirty := 0#16, nch := n.setWidth 5, kind := kind, buf := List.replicate maxCh 0#16 }
    else none
  | _, _, _ => none

/-- The configuration table: the descriptors before the first terminator (30_encoding.md R153;
43_aal.md R281). -/
def configTable (t : List Descriptor) : List Descriptor :=
  t.takeWhile (fun d => !d.isTerminator)

/-- The boards of a table of well-formed descriptors, or the index of the first malformed one, counted
from i (43_aal.md R280, R282). -/
def buildBoards (i : Nat) : List Descriptor → Except Nat (List Board)
  | [] => .ok []
  | d :: rest =>
    match d.board? with
    | none => .error i
    | some b =>
      match buildBoards (i + 1) rest with
      | .ok bs => .ok (b :: bs)
      | .error j => .error j

/-! ### Parameters -/

/-- The entry of a table of departures, or the default (log 7). -/
def tableGet {α β : Type} [DecidableEq α] (t : List (α × β)) (k : α) (dflt : β) : β :=
  match t with
  | [] => dflt
  | (a, b) :: rest => if a = k then b else tableGet rest k dflt

/-- MUX_ADDR(c) (44_bus.md R344). -/
def muxAddr (p : Params) (c : BitVec 3) : BusAddr := p.muxAddr.getD c.toNat 0#7

/-- INIT_SEQ(f, n) (44_bus.md R350). -/
def initSeq (p : Params) (f : Family) (n : BitVec 5) : List (List Byte) := tableGet p.initSeq (f, n) []

/-- CHAN_BYTE(f, ch), ch by default (44_bus.md R347). -/
def chanByte (p : Params) (f : Family) (ch : BitVec 4) : Byte :=
  tableGet p.chanByte (f, ch) (ch.setWidth 8)

/-- FRAME_PREFIX(f), empty by default (44_bus.md R347). -/
def framePrefix (p : Params) (f : Family) : List Byte := tableGet p.framePrefix f []

/-- WIRE_PERM(f, n), the identity on 0..2n-1 by default (44_bus.md R348). -/
def wirePerm (p : Params) (f : Family) (n : BitVec 5) : List Nat :=
  tableGet p.wirePerm (f, n) (List.range (2 * n.toNat))

/-- The default ADC_CONFIG: OS, MUX, PGA, MODE, DR and the comparator bits (44_bus.md R352). -/
def defaultAdcConfig (sel gain rate : BitVec 3) : Half :=
  1#1 ++ sel ++ gain ++ 1#1 ++ rate ++ 0b00011#5

/-- ADC_CONFIG(sel, gain, rate) (44_bus.md R352). -/
def adcConfig (p : Params) (sel gain rate : BitVec 3) : Half :=
  tableGet p.adcConfig (sel, gain, rate) (defaultAdcConfig sel gain rate)

/-- ADC_NOTBUSY(w), bit 15 by default (44_bus.md R353). -/
def adcNotBusy (p : Params) (w : Half) : Bool := tableGet p.adcNotBusy w (w.getLsbD 15)

/-- ADC_MUX_CODE(ch), 4 + ch by default (44_bus.md R352). -/
def adcMuxCode (p : Params) (ch : BitVec 4) : BitVec 3 :=
  tableGet p.adcMuxCode ch (BitVec.ofNat 3 (4 + ch.toNat))

/-! ### The modulation oracle's free answer -/

/-- A value of the oracle's contract from a raw one: every value of the contract comes from itself
(42_driver.md R261; log 4). -/
def unitOf (raw : F32) : F32 := if inUnitRange raw then raw else 0#32

/-- unitOf answers inside the contract. -/
theorem unitOf_inRange (raw : F32) : inUnitRange (unitOf raw) = true := by
  unfold unitOf
  split
  · assumption
  · decide

/-- The free answer number n of the modulation oracle (log 4). -/
def freeModAnswer (n : Nat) : ModAnswer :=
  ⟨unitOf (freeTriangle n), unitOf (freeSine n), unitOf_inRange _, unitOf_inRange _⟩

end Sys2Proof.Machine
end

