-- ==== Sys2Proof/Machine/Ops.lean ====
section
/-! DEFINITION. The named operations that the meanings share: the trace, the error record, access to
the tables, the host frames, the bus transactions with their segments, the wire frames, the buffered
write and the flush. `op` is the OPC of the running command, or 0xFE or 0xFD for a host write or read
(60_exceptions.md R372). -/

namespace Sys2Proof.Machine

open Sys2Proof.Config

/-! ### The trace and the error record -/

/-- Emit(e): append an event to the trace (00_scope.md R11, 20_memory.md R112). -/
def State.emit (e : Event) (s : State) : State := { s with trace := s.trace ++ [e] }

/-- raise Error(code, index, op): set the ERR bit, write LAST_ERR, emit one Log event, and go on
(60_exceptions.md R370, R372). This is the block's whole response to an error: there is no trap. -/
def State.raise (e : ErrorKind) (index op : Byte) (s : State) : State :=
  State.emit (.log .error (subsystemOf (errorCode e) op) (errorCode e) index)
    { s with
      err := s.err ||| errorMask e
      lastErr := { opc := op, index := index, code := errorCode e } }

/-- The host's return from an error: ERR is write-1-to-clear, and LAST_ERR keeps the latest error
(60_exceptions.md R383, 40_host_access.md R187). -/
def State.clearErr (w : Word) (s : State) : State :=
  { s with err := s.err &&& ~~~(w.extractLsb' 0 9) }

/-! ### The host side -/

/-- Return a word to the host (30_encoding.md R141; log 2). -/
def State.reply (w : Word) (s : State) : State := { s with replies := s.replies ++ [w] }

/-- The next host frame, taken from those the host has yet to issue (log 1). -/
def State.takeFrame (s : State) : Option (Frame × State) :=
  match s.frames with
  | [] => none
  | f :: rest => some (f, { s with frames := rest })

/-- Place a host frame before those yet to be issued (log 1). -/
def State.pushFrame (f : Frame) (s : State) : State := { s with frames := f :: s.frames }

/-- A malformed host frame: BadRegister with INDEX 0, and a read frame returns 0 (30_encoding.md R142). -/
def State.rejectFrame (f : Frame) (s : State) : State :=
  if frameW f then s.raise .badRegister 0#8 0xFE#8
  else State.reply 0#32 (s.raise .badRegister 0#8 0xFD#8)

/-! ### Tables -/

/-- NUM_VOICES (00_scope.md R6). -/
def State.numVoices (s : State) : Nat := s.voices.length
/-- NUM_GROUPS (00_scope.md R6). -/
def State.numGroups (s : State) : Nat := s.groupCount.length
/-- NBOARDS (10_state.md R42). -/
def State.numBoards (s : State) : Nat := s.boards.length
/-- NDEVICES (10_state.md R42). -/
def State.numDevices (s : State) : Nat := s.devices.length

/-- V[v] (00_scope.md R9). -/
def State.voice (v : Nat) (s : State) : Voice := s.voices.getD v Voice.reset

/-- V[v] <- x (00_scope.md R9). -/
def State.setVoice (v : Nat) (x : Voice) (s : State) : State := { s with voices := s.voices.set v x }

/-- B[b]; an entry at or beyond NBOARDS is zero (10_state.md R63; log 10). -/
def State.board (b : Nat) (s : State) : Board := s.boards.getD b Board.zero

/-- B[b] <- x (00_scope.md R9). -/
def State.setBoard (b : Nat) (x : Board) (s : State) : State := { s with boards := s.boards.set b x }

/-- D[d]; an entry at or beyond NDEVICES is zero (10_state.md R65; log 10). -/
def State.device (d : Nat) (s : State) : Device := s.devices.getD d Device.zero

/-- GROUP_COUNT[g] + 1, a u8 (41_voice.md R202). -/
def State.incGroup (g : BitVec 4) (s : State) : State :=
  { s with groupCount := s.groupCount.modify g.toNat (· + 1#8) }

/-- GROUP_COUNT[g] - 1, a u8 (41_voice.md R206). -/
def State.decGroup (g : BitVec 4) (s : State) : State :=
  { s with groupCount := s.groupCount.modify g.toNat (· - 1#8) }

/-! ### The oracles -/

/-- The bus oracle's answer to the next transaction: the next scripted one, or a free value
(44_bus.md R341; log 3). -/
def State.askBus (s : State) : BusAnswer × State :=
  match s.busAnswers with
  | a :: rest => (a, { s with busAnswers := rest })
  | [] => (freeBusAnswer s.freeIndex, { s with freeIndex := s.freeIndex + 1 })

/-- The modulation oracle's answer to this TICK: the next scripted one, or a free value
(42_driver.md R261; log 4). -/
def State.askMod (s : State) : ModAnswer × State :=
  match s.modAnswers with
  | a :: rest => (a, { s with modAnswers := rest })
  | [] => (freeModAnswer s.freeIndex, { s with freeIndex := s.freeIndex + 1 })

/-! ### Bus transactions -/

/-- What a transaction leaves: its event, and for a status other than 0 the error record of BusFailure
(44_bus.md R340, R356). -/
def State.recordTxn (kind : TxnKind) (a : BusAddr) (out : List Byte) (nIn : Nat) (st : BusStatus)
    (bytesIn : List Byte) (index op : Byte) (s : State) : State :=
  let s := s.emit (.txn kind a out nIn st bytesIn)
  if st = .ok then s else s.raise (.busTransaction st) index op

/-- BusWrite(a, bytes) (44_bus.md R340). -/
def State.busWrite (a : BusAddr) (bytes : List Byte) (index op : Byte) (s : State) :
    BusStatus × State :=
  let r := s.askBus
  (r.1.status, r.2.recordTxn .write a bytes 0 r.1.status [] index op)

/-- BusProbe(a) (44_bus.md R340, R355). -/
def State.busProbe (a : BusAddr) (index op : Byte) (s : State) : BusStatus × State :=
  let r := s.askBus
  (r.1.status, r.2.recordTxn .probe a [] 0 r.1.status [] index op)

/-- The bytes a read brings: none unless it succeeded (44_bus.md R340, R342). -/
def readBytes (a : BusAnswer) : List Byte := if a.status = .ok then [a.first, a.second] else []

/-- BusRead(a, 2), every read the block issues, with the word its two bytes make, the first byte the high
one (44_bus.md R340, R342, R351). -/
def State.busRead2 (a : BusAddr) (index op : Byte) (s : State) : (BusStatus × Half) × State :=
  let r := s.askBus
  ((r.1.status, r.1.first ++ r.1.second),
    r.2.recordTxn .read a [] 2 r.1.status (readBytes r.1) index op)

/-- SegBegin(b): select the board's slice (44_bus.md R344). -/
def State.segBegin (bd : Board) (index op : Byte) (s : State) : BusStatus × State :=
  match bd.cluster with
  | none => (.ok, s)
  | some c => s.busWrite (muxAddr s.params c) [1#8 <<< bd.slice.toNat] index op

/-- SegEnd(b): deselect; its status is recorded and otherwise ignored (44_bus.md R345). -/
def State.segEnd (bd : Board) (index op : Byte) (s : State) : State :=
  match bd.cluster with
  | none => s
  | some c => (s.busWrite (muxAddr s.params c) [0x00#8] index op).2

/-- Bracketed(b, X): one bus operation between its select and its deselect, the deselect on every path
(44_bus.md R346). -/
def State.bracketed (bd : Board) (index op : Byte) (x : State → BusStatus × State) (s : State) :
    BusStatus × State :=
  let r := s.segBegin bd index op
  let r := if r.1 = .ok then x r.2 else r
  (r.1, r.2.segEnd bd index op)

/-- A bracketed write to a board's address. -/
def State.boardWrite (b : Nat) (bytes : List Byte) (op : Byte) (s : State) : BusStatus × State :=
  let bd := s.board b
  s.bracketed bd (BitVec.ofNat 8 b) op (fun s => s.busWrite bd.addr bytes (BitVec.ofNat 8 b) op)

/-- A bracketed probe of a board's address. -/
def State.boardProbe (b : Nat) (op : Byte) (s : State) : BusStatus × State :=
  let bd := s.board b
  s.bracketed bd (BitVec.ofNat 8 b) op (fun s => s.busProbe bd.addr (BitVec.ofNat 8 b) op)

/-- AdcRead(b, ptr): a pointer write, then a two-byte read, in a single bracket (44_bus.md R351). -/
def State.adcRead (b : Nat) (ptr : Byte) (op : Byte) (s : State) : (BusStatus × Half) × State :=
  let bd := s.board b
  let i := BitVec.ofNat 8 b
  let r := s.segBegin bd i op
  if r.1 = .ok then
    let w := r.2.busWrite bd.addr [ptr] i op
    if w.1 = .ok then
      let q := w.2.busRead2 bd.addr i op
      ((q.1.1, if q.1.1 = .ok then q.1.2 else 0#16), q.2.segEnd bd i op)
    else ((w.1, 0#16), w.2.segEnd bd i op)
  else ((r.1, 0#16), r.2.segEnd bd i op)

/-! ### Wire frames -/

/-- BUF[b][ch] (10_state.md R64). -/
def Board.slot (bd : Board) (ch : Nat) : Half := bd.buf.getD ch 0#16

/-- The selective frame: the dirty channels, each its channel byte and two data bytes
(44_bus.md R347). -/
def selectiveFrame (p : Params) (bd : Board) : List Byte :=
  framePrefix p .dacSel ++
    ((List.range bd.nch.toNat).filter (fun ch => bd.dirty.getLsbD ch)).flatMap
      (fun ch => [chanByte p .dacSel (BitVec.ofNat 4 ch), hi (bd.slot ch), lo (bd.slot ch)])

/-- The bytes of every channel, high byte first (44_bus.md R348). -/
def channelBytes (bd : Board) : List Byte :=
  (List.range bd.nch.toNat).flatMap (fun ch => [hi (bd.slot ch), lo (bd.slot ch)])

/-- The full-set frame: every channel, in the chip's wire byte order (44_bus.md R348). -/
def fullSetFrame (p : Params) (bd : Board) : List Byte :=
  framePrefix p .dacFull ++
    (wirePerm p .dacFull bd.nch).map (fun k => (channelBytes bd).getD k 0#8)

/-- Byte j of the packed latch frame (44_bus.md R349). -/
def latchByte (bd : Board) (j : Nat) : Byte :=
  BitVec.ofBoolListLE ((List.range 8).map
    (fun k => decide (8 * j + k < bd.nch.toNat) && (bd.slot (8 * j + k)).getLsbD 0))

/-- The packed latch frame (44_bus.md R349). -/
def latchFrame (p : Params) (bd : Board) : List Byte :=
  framePrefix p .gpio ++ (List.range ((bd.nch.toNat + 7) / 8)).map (latchByte bd)

/-- Frame(b), by the board's family (43_aal.md R293; the ADC case is never needed, log 11). -/
def flushFrame (p : Params) (freeIndex : Nat) (bd : Board) : List Byte :=
  match bd.family with
  | .dacSel => selectiveFrame p bd
  | .dacFull => fullSetFrame p bd
  | .gpio => latchFrame p bd
  | .adc => freeAdcFrame freeIndex

/-! ### Logical devices and buffered writes -/

/-- Translate(d, want_kind): the board and channel of a handle of that kind, or none with
InvalidLogicalDevice recorded (20_memory.md R108). -/
def State.translate (d : Byte) (want : Kind) (op : Byte) (s : State) :
    Option (Nat × Nat) × State :=
  if d.toNat < s.numDevices ∧ (s.device d.toNat).kind = want then
    (some ((s.device d.toNat).board.toNat, (s.device d.toNat).channel.toNat), s)
  else (none, s.raise .invalidLogicalDevice d op)

/-- A board with a channel's buffer slot written and its dirty bit set (43_aal.md R289). -/
def Board.write (ch : Nat) (value : Half) (bd : Board) : Board :=
  { bd with buf := bd.buf.set ch value, dirty := bd.dirty ||| (1#16 <<< ch) }

/-- SetOut(d, kind, value): a buffered write, suppressed silently on a board with VALID = 0
(43_aal.md R289). -/
def State.setOut (d : Byte) (kind : Kind) (value : Half) (op : Byte) (s : State) : State :=
  match s.translate d kind op with
  | (none, s) => s
  | (some (b, ch), s) =>
    if (s.board b).valid then s.setBoard b ((s.board b).write ch value) else s

/-! ### Board bring-up -/

/-- ValidateBoard(b): probe, set VALID from the status, record BoardUnreachable on a failure
(43_aal.md R297). -/
def State.validateBoard (b : Nat) (op : Byte) (s : State) : State :=
  let r := s.boardProbe b op
  let s := r.2.setBoard b { r.2.board b with valid := decide (r.1 = .ok) }
  if r.1 = .ok then s else s.raise .boardUnreachable (BitVec.ofNat 8 b) op

/-- The writes of an init sequence in order, the rest abandoned at the first failure
(43_aal.md R285). -/
def State.initWrites (b : Nat) (op : Byte) : List (List Byte) → State → State
  | [], s => s
  | t :: rest, s =>
    let r := s.boardWrite b t op
    if r.1 = .ok then State.initWrites b op rest r.2 else r.2

/-- InitBoard(b) (43_aal.md R285). -/
def State.initBoard (b : Nat) (op : Byte) (s : State) : State :=
  State.initWrites b op (initSeq s.params (s.board b).family (s.board b).nch) s

/-! ### Flush -/

/-- One board of the flush scan: at most one frame, and the dirty mask cleared after the attempt
(43_aal.md R292). -/
def State.flushBoard (op : Byte) (s : State) (b : Nat) : State :=
  let bd := s.board b
  if bd.valid && bd.dirty != 0#16 then
    let r := s.boardWrite b (flushFrame s.params s.freeIndex bd) op
    r.2.setBoard b { r.2.board b with dirty := 0#16 }
  else s

/-- Flush(): every board, ascending (43_aal.md R292). -/
def State.flushAll (op : Byte) (s : State) : State :=
  (List.range s.numBoards).foldl (State.flushBoard op) s

end Sys2Proof.Machine
end

