-- ==== Sys2Proof/Machine/Voice.lean ====
section
/-! DEFINITION. The voice commands NEWVOICE, START, END, PROCESS and UPDATE, and the envelope state
machine (41_voice.md). -/

namespace Sys2Proof.Machine

open Sys2Proof.Config

/-- The outcome of every instruction. -/
abbrev Result := Host.Outcome State Fault Refusal

/-! ### The procedures of one voice -/

/-- StartEntry: START to ATTACK (41_voice.md R207). -/
def Voice.startEntry (p : Params) (v : Voice) : Voice :=
  { v with
    susCap := v.sustain
    noDecay := flt v.decayMs p.noDecayMs
    timer := fZero
    delta := fsub v.top v.bottom
    target := v.attackMs
    state := .attack }

/-- TriggerEnd: the move to RELEASE that END asked for (41_voice.md R208). -/
def Voice.triggerEnd (v : Voice) : Voice :=
  if v.state = .release then { v with trigEnd := false }
  else
    { v with
      trigEnd := false
      state := .release
      timer := v.releaseMs
      target := v.releaseMs
      delta := fsub v.current v.bottom }

/-- The ramp base + (timer / target) * delta through clamp01, evaluated left to right
(41_voice.md R209, R210, R212). -/
def rampLevel (base timer target delta : F32) : F32 :=
  clamp01 (fadd base (fmul (fdiv timer target) delta))

/-- AttackStep (41_voice.md R209). -/
def Voice.attackStep (dt : F32) (v : Voice) : Voice :=
  let timer := fadd v.timer dt
  if fge timer v.target then
    if v.noDecay then { v with timer := timer, current := v.top, state := .sustain }
    else
      { v with
        current := v.top
        state := .decay
        timer := v.decayMs
        target := v.decayMs
        delta := fsub v.top v.susCap }
  else { v with timer := timer, current := rampLevel v.bottom timer v.target v.delta }

/-- DecayStep (41_voice.md R210). -/
def Voice.decayStep (p : Params) (dt : F32) (v : Voice) : Voice :=
  let timer := fsub v.timer dt
  if fgt timer p.decaySnapMs then
    { v with timer := timer, current := rampLevel v.susCap timer v.target v.delta }
  else
    { v with
      timer := timer
      current := v.susCap
      state := .sustain
      peak := fge v.susCap v.top || v.peak }

/-- SustainStep: the peak correction; with PEAK_RESNAP = ONCE it also clears PEAK (41_voice.md R211). -/
def Voice.sustainStep (p : Params) (v : Voice) : Voice :=
  if v.peak && !v.dualUse && fne v.current v.top then
    { v with
      current := v.top
      peak := match p.peakResnap with
        | .everyTick => true
        | .once => false }
  else v

/-- Hold, the damper test (41_voice.md R224). -/
def Voice.hold (v : Voice) : Bool :=
  match v.dmode with
  | .normal => v.pedal
  | .invert => !v.pedal

/-- The voice's own part of Clear (41_voice.md R206). -/
def Voice.cleared (v : Voice) : Voice :=
  { v with active := false, state := .idle, trigEnd := false, peak := false }

/-- MarkDirty: DIRTY is set where the level's bits or the state changed, or MODEN is 1
(41_voice.md R214). -/
def Voice.markDirty (oldCurrent : F32) (oldState : EnvState) (v : Voice) : Voice :=
  { v with
    dirty := v.dirty || decide (v.current ≠ oldCurrent) || decide (v.state ≠ oldState) || v.modEn }

/-! ### Process -/

/-- Clear(v): the voice returns to IDLE and leaves its group's count if it was counted
(41_voice.md R206). -/
def State.clearVoice (v : Nat) (s : State) : State :=
  let counted := if (s.voice v).active then s.decGroup (s.voice v).group else s
  counted.setVoice v (s.voice v).cleared

/-- InvariantViolation(v): record VoiceInvariant and force the voice clear (41_voice.md R213). -/
def State.invariantViolation (v : Nat) (op : Byte) (s : State) : State :=
  (s.raise .voiceInvariant (BitVec.ofNat 8 v) op).clearVoice v

/-- ReleaseStep (41_voice.md R212). -/
def State.releaseStep (v : Nat) (dt : F32) (s : State) : State :=
  let x := s.voice v
  let timer := fsub x.timer dt
  let y := { x with timer := timer }
  if fgt timer s.params.releaseSnapMs then
    s.setVoice v { y with current := rampLevel x.bottom timer x.target x.delta }
  else if y.hold then s.setVoice v y
  else (s.setVoice v y).clearVoice v

/-- The voice after START's entry actions and the trigger-end test, the first two parts of Process
(41_voice.md R205; 90_conflicts.md C6). -/
def Voice.enter (p : Params) (v : Voice) : Voice :=
  let a := if v.state = .start then v.startEntry p else v
  if a.trigEnd then a.triggerEnd else a

/-- The one state step of Process, on a voice that has just entered (41_voice.md R205). -/
def State.stateStep (v : Nat) (dt : F32) (op : Byte) (s : State) : State :=
  match (s.voice v).state with
  | .attack => s.setVoice v ((s.voice v).attackStep dt)
  | .decay => s.setVoice v ((s.voice v).decayStep s.params dt)
  | .sustain => s.setVoice v ((s.voice v).sustainStep s.params)
  | .release => s.releaseStep v dt
  | .idle => s.invariantViolation v op
  | .start => s.invariantViolation v op
  | .illegal6 => s.invariantViolation v op
  | .illegal7 => s.invariantViolation v op

/-- Process(v, dt) (41_voice.md R205). An inactive voice that is not IDLE is cleared and left without
MarkDirty, as R205's pseudocode returns before it (log 9). -/
def State.processVoice (v : Nat) (dt : F32) (op : Byte) (s : State) : State :=
  let old := s.voice v
  if old.active then
    let s := s.setVoice v (old.enter s.params)
    let s := s.stateStep v dt op
    s.setVoice v ((s.voice v).markDirty old.current old.state)
  else if old.state = .idle then s
  else s.invariantViolation v op

/-! ### Update -/

/-- OutputLevel(v), the modulated level, never written back (41_voice.md R216; 90_conflicts.md C5). -/
def outputLevel (s : State) (v : Voice) : F32 :=
  if v.modEn then
    let m := if s.modSel then s.modSin else s.modTri
    clamp01 (fadd v.current (fmul (fmul v.current m) v.modScale))
  else v.current

/-- The code an Update sends (41_voice.md R215, R217). -/
def outputCode (s : State) (v : Voice) : Half :=
  toCode (fmul (fmul (outputLevel s v) v.scale) v.expr)

/-- Update(v): nothing unless DIRTY; else LASTCODE, DIRTY and the buffered write (41_voice.md R215). -/
def State.updateVoice (v : Nat) (op : Byte) (s : State) : State :=
  let x := s.voice v
  if x.dirty then
    let code := outputCode s x
    (s.setVoice v { x with lastCode := code, dirty := false }).setOut x.channel .ao code op
  else s

/-! ### The meanings -/

/-- The operand v of a voice command is checked against NUM_VOICES; out of range it is BadCommand
(30_encoding.md R148, check 3). -/
def State.withVoice (v op : Byte) (f : State → State) (s : State) : State :=
  if v.toNat < s.numVoices then f s else s.raise .badCommand v op

/-- NEWVOICE's effect on a state where both indices are in range (41_voice.md R201). -/
def State.bindVoice (v : Byte) (group : BitVec 4) (channel : Byte) (s : State) : State :=
  let x := s.voice v.toNat
  if x.bound then s.raise .badCommand v 0x01#8
  else s.setVoice v.toNat { x with channel := channel, group := group, bound := true, dirty := true }

/-- NEWVOICE (41_voice.md R201). -/
def execNewvoice (v : Byte) (group : BitVec 4) (channel : Byte) (s : State) : Result :=
  .next (s.withVoice v 0x01#8 (fun s =>
    if group.toNat < s.numGroups then s.bindVoice v group channel else s.raise .badCommand v 0x01#8))

/-- START's effect on a voice in range (41_voice.md R202). -/
def State.startVoice (v : Nat) (s : State) : State :=
  let x := s.voice v
  if !x.bound || x.active || feq x.top fZero || x.mute then s
  else
    (s.setVoice v { x with active := true, state := .start, trigEnd := false, peak := false }).incGroup
      x.group

/-- START (41_voice.md R202). -/
def execStart (v : Byte) (s : State) : Result :=
  .next (s.withVoice v 0x02#8 (State.startVoice v.toNat))

/-- END's effect on a voice in range (41_voice.md R203). -/
def State.endVoice (v : Nat) (s : State) : State :=
  if (s.voice v).active then s.setVoice v { s.voice v with trigEnd := true } else s

/-- END (41_voice.md R203). -/
def execEndNote (v : Byte) (s : State) : Result :=
  .next (s.withVoice v 0x03#8 (State.endVoice v.toNat))

/-- PROCESS: Process(v, TICK_DT) (41_voice.md R204). -/
def execProcess (v : Byte) (s : State) : Result :=
  .next (s.withVoice v 0x04#8 (fun s => s.processVoice v.toNat s.tickDt 0x04#8))

/-- UPDATE (41_voice.md R215). -/
def execUpdate (v : Byte) (s : State) : Result :=
  .next (s.withVoice v 0x05#8 (fun s =>
    if (s.voice v.toNat).bound then s.updateVoice v.toNat 0x05#8 else s.raise .badCommand v 0x05#8))

end Sys2Proof.Machine
end

