-- ==== Sys2Proof/Machine/Aal.lean ====
section
/-! DEFINITION. The actuator abstraction layer commands BEGIN, SETAO, SETDO, FLUSH, STARTCONV, POLL,
VALIDATE, RESETBOARD and NOP (43_aal.md). -/

namespace Sys2Proof.Machine

open Sys2Proof.Config

/-! ### BEGIN -/

/-- The devices of one board: ascending channels (43_aal.md R286). -/
def boardDevices (p : Params) (b : Nat) (bd : Board) : List Device :=
  (List.range bd.nch.toNat).map (fun ch =>
    { board := BitVec.ofNat 8 b
      channel := BitVec.ofNat 4 ch
      kind := bd.kind
      adcSel := if bd.kind = .ai then adcMuxCode p (BitVec.ofNat 4 ch) else 0#3 })

/-- BuildDevices over the boards from index b on (43_aal.md R286). -/
def buildDevices (p : Params) (b : Nat) : List Board → List Device
  | [] => []
  | bd :: rest => boardDevices p b bd ++ buildDevices p (b + 1) rest

/-- A failed BEGIN: BEGIN_RESULT -1 and the error record (43_aal.md R282, R283). -/
def State.beginFailed (e : ErrorKind) (index : Byte) (s : State) : State :=
  { s with beginResult := 0xFFFFFFFF#32 }.raise e index 0x10#8

/-- Some board uses the cluster (43_aal.md R284). -/
def usesCluster (boards : List Board) (c : Nat) : Bool :=
  boards.any (fun bd => decide (bd.cluster = some (BitVec.ofNat 3 c)))

/-- ProbeMux(c) where some board uses cluster c: a root transaction whose failure is only recorded
(43_aal.md R284). -/
def State.probeMux (op : Byte) (s : State) (c : Nat) : State :=
  if usesCluster s.boards c then
    (s.busProbe (muxAddr s.params (BitVec.ofNat 3 c)) (BitVec.ofNat 8 c) op).2
  else s

/-- Validate one board and initialise it if it is valid (43_aal.md R285). -/
def State.bringUp (op : Byte) (s : State) (b : Nat) : State :=
  let s := s.validateBoard b op
  if (s.board b).valid then s.initBoard b op else s

/-- The number of boards with VALID = 0 (43_aal.md R287). -/
def State.unreachable (s : State) : Nat := s.boards.countP (fun bd => !bd.valid)

/-- The tables built: boards, devices and BEGUN (43_aal.md R280, R281, R286). -/
def State.withTables (boards : List Board) (s : State) : State :=
  { s with boards := boards, devices := buildDevices s.params 0 boards, begun := true }

/-- The bus phase of BEGIN, after the tables are built (43_aal.md R284, R285, R287). -/
def State.busPhase (s : State) : State :=
  let s := s.emit (.busInit s.params.busClockHz)
  let s := (List.range maxClusters).foldl (State.probeMux 0x10#8) s
  let s := (List.range s.numBoards).foldl (State.bringUp 0x10#8) s
  { s with beginResult := BitVec.ofNat 32 s.unreachable }

/-- BEGIN's effect (43_aal.md R280, R282, R283, R288). -/
def State.beginTables (s : State) : State :=
  if s.begun then s.raise .badCommand 0#8 0x10#8
  else if (configTable s.table).isEmpty then s.beginFailed .configurationEmpty 0#8
  else
    match buildBoards 0 (configTable s.table) with
    | .error i => s.beginFailed .configurationMalformed (BitVec.ofNat 8 i)
    | .ok boards => (s.withTables boards).busPhase

/-- BEGIN (43_aal.md R280). -/
def execBegin (s : State) : Result := .next s.beginTables

/-! ### Buffered writes and the flush -/

/-- SETAO (43_aal.md R290). -/
def execSetao (d : Byte) (value : Half) (s : State) : Result :=
  .next (s.setOut d .ao value 0x11#8)

/-- SETDO (43_aal.md R291). -/
def execSetdo (d : Byte) (value : BitVec 1) (s : State) : Result :=
  .next (s.setOut d .do_ (value.setWidth 16) 0x12#8)

/-- FLUSH (43_aal.md R292). -/
def execFlush (s : State) : Result := .next (s.flushAll 0x13#8)

/-! ### Conversions -/

/-- STARTCONV's effect (43_aal.md R295). -/
def State.startConversion (d : Byte) (s : State) : State :=
  match s.translate d .ai 0x14#8 with
  | (none, s) => s
  | (some (b, _), s) =>
    if (s.board b).valid then
      let w := adcConfig s.params (s.device d.toNat).adcSel s.adcGain s.adcRate
      let r := s.boardWrite b [s.params.adcPtrConfig, hi w, lo w] 0x14#8
      if r.1 = .ok then { r.2 with awaiting := true, awaitDev := d } else r.2
    else s

/-- STARTCONV (43_aal.md R295). -/
def execStartconv (d : Byte) (s : State) : Result := .next (s.startConversion d)

/-- The delivery of a sample (43_aal.md R296; 60_exceptions.md R376). -/
def State.deliver (raw : Half) (s : State) : State :=
  State.emit (.sampleReady raw)
    { s with convResult := raw.signExtend 32, ready := true, awaiting := false }

/-- POLL's effect (43_aal.md R296). -/
def State.pollConversion (s : State) : State :=
  if !s.awaiting then s
  else
    let b := (s.device s.awaitDev.toNat).board.toNat
    if !(s.board b).valid then s
    else
      let q := s.adcRead b s.params.adcPtrConfig 0x15#8
      if q.1.1 ≠ .ok then q.2
      else if !adcNotBusy s.params q.1.2 then q.2
      else
        let r := q.2.adcRead b s.params.adcPtrConv 0x15#8
        if r.1.1 ≠ .ok then r.2 else r.2.deliver r.1.2

/-- POLL (43_aal.md R296). -/
def execPoll (s : State) : Result := .next s.pollConversion

/-! ### Board validity -/

/-- The operand b of a board command is checked against NBOARDS; out of range it is BadCommand
(30_encoding.md R148, check 3). -/
def State.withBoard (b op : Byte) (f : State → State) (s : State) : State :=
  if b.toNat < s.numBoards then f s else s.raise .badCommand b op

/-- VALIDATE (43_aal.md R297). -/
def execValidate (b : Byte) (s : State) : Result :=
  .next (s.withBoard b 0x16#8 (fun s => s.validateBoard b.toNat 0x16#8))

/-- RESETBOARD's effect on a board in range: the buffer and the dirty mask are cleared even where the
board stays invalid (43_aal.md R298). -/
def State.resetBoard (b : Nat) (op : Byte) (s : State) : State :=
  let s := s.bringUp op b
  s.setBoard b { s.board b with buf := List.replicate maxCh 0#16, dirty := 0#16 }

/-- RESETBOARD (43_aal.md R298). -/
def execResetboard (b : Byte) (s : State) : Result :=
  .next (s.withBoard b 0x17#8 (fun s => s.resetBoard b.toNat 0x17#8))

/-- NOP (43_aal.md R299). -/
def execNop (s : State) : Result := .next s

end Sys2Proof.Machine
end

