-- ==== Sys2Proof/Machine/Driver.lean ====
section
/-! DEFINITION. The per-tick driver TICK (42_driver.md). -/

namespace Sys2Proof.Machine

/-- Emit ModTick(dt), ask the modulation oracle and latch its pair (42_driver.md R260, R261). -/
def State.tickModulation (s : State) : State :=
  let r := (s.emit (.modTick s.tickDt)).askMod
  { r.2 with modTri := r.1.tri, modSin := r.1.sin }

/-- One voice's turn in a tick: Process then Update where it is active (42_driver.md R260, R262). -/
def State.tickVoice (dt : F32) (op : Byte) (s : State) (v : Nat) : State :=
  if (s.voice v).active then (s.processVoice v dt op).updateVoice v op else s

/-- Every voice, ascending (42_driver.md R262). -/
def State.tickVoices (dt : F32) (op : Byte) (s : State) : State :=
  (List.range s.numVoices).foldl (State.tickVoice dt op) s

/-- TICK (42_driver.md R260). -/
def execTick (s : State) : Result :=
  .next ((s.tickModulation.tickVoices s.tickDt 0x06#8).flushAll 0x06#8)

end Sys2Proof.Machine
end

