-- ==== Sys2Proof/Machine/HostAccess.lean ====
section
/-! DEFINITION. The two host accesses RD and WR: reading every register of the map, the checks and side
effects of writing each, and the execution of a command word written to CMD (40_host_access.md). -/

namespace Sys2Proof.Machine

open Sys2Proof.Config

/-! ### Reading -/

/-- The word of a voice register (10_state.md R48 to R62). -/
def voiceRegWord (v : Voice) : VoiceReg → Word
  | .vctrl => vctrlWord v
  | .vstat => vstatWord v
  | .vbind => vbindWord v
  | .top => v.top
  | .bottom => v.bottom
  | .sustain => v.sustain
  | .attackMs => v.attackMs
  | .decayMs => v.decayMs
  | .releaseMs => v.releaseMs
  | .scale => v.scale
  | .expr => v.expr
  | .modScale => v.modScale
  | .current => v.current
  | .timer => v.timer
  | .delta => v.delta
  | .target => v.target
  | .susCap => v.susCap
  | .lastCode => lastCodeWord v

/-- The word a read of a register returns; CMD reads 0, and an entry of the board or device table that
does not exist reads 0 (40_host_access.md R180; 10_state.md R33 to R65). -/
def regWord (s : State) : Reg → Word
  | .id => idWord
  | .params => paramsWord s
  | .gctrl => gctrlWord s
  | .err => errWord s
  | .lastErr => lastErrWord s
  | .tickDt => s.tickDt
  | .modTri => s.modTri
  | .modSin => s.modSin
  | .cmd => 0#32
  | .beginResult => s.beginResult
  | .aalstat => aalstatWord s
  | .convStatus => convStatusWord s
  | .convResult => s.convResult
  | .adcCfg => adcCfgWord s
  | .groupCount g => (s.groupCount.getD g 0#8).setWidth 32
  | .cfgW0 i => (s.table.getD i Descriptor.terminator).w0
  | .cfgW1 i => (s.table.getD i Descriptor.terminator).w1
  | .bstat0 b => if b < s.numBoards then bstat0Word (s.board b) else 0#32
  | .bstat1 b => if b < s.numBoards then bstat1Word (s.board b) else 0#32
  | .buf b ch => ((s.board b).slot ch).setWidth 32
  | .dev d => if d < s.numDevices then devWord (s.device d) else 0#32
  | .voice v r => voiceRegWord (s.voice v) r

/-- The register at a host address in this state, none where it is unmapped (20_memory.md R102). -/
def State.regOf (s : State) (a : HostAddr) : Option Reg := regAt s.numVoices s.numGroups a

/-- What a host read of an address returns: the model's read of one word of the register space
(20_memory.md R101; 40_host_access.md R180). -/
def readReg (s : State) (a : HostAddr) : Word :=
  match s.regOf a with
  | some r => regWord s r
  | none => 0#32

/-- RD: the register's word is returned; an unmapped address returns 0 and records BadRegister
(40_host_access.md R180). -/
def execRd (addr : HostAddr) (s : State) : Result :=
  match s.regOf addr with
  | some r => .next (s.reply (regWord s r))
  | none => .next (State.reply 0#32 (s.raise .badRegister 0#8 0xFD#8))

/-! ### Checked stores -/

/-- Legal for TOP, BOTTOM, SUSTAIN and CURRENT (40_host_access.md R184). -/
def legalLevel (w : F32) : Bool := fFinite w && fge w fZero && fle w fOne

/-- Legal for ATTACK_MS, DECAY_MS, RELEASE_MS, EXPR and TICK_DT (40_host_access.md R184). -/
def legalTime (w : F32) : Bool := fFinite w && fge w fZero

/-- Legal for SCALE of an unbound voice (40_host_access.md R184). -/
def legalScale (w : F32) : Bool := fFinite w && fge w fZero && fle w f65535

/-- Legal for MODSCALE (40_host_access.md R184). -/
def legalModScale (w : F32) : Bool := fFinite w

/-- What a host write does to a voice register: the new voice, or a refusal by the error it raises
(40_host_access.md R181, R182, R184 to R186). -/
def writeVoiceReg (w : Word) (v : Voice) : VoiceReg → Except ErrorKind Voice
  | .vctrl => .ok (v.writeVctrl w)
  | .top => if legalLevel w then .ok { v with top := w } else .error .paramRejected
  | .bottom => if legalLevel w then .ok { v with bottom := w } else .error .paramRejected
  | .sustain => if legalLevel w then .ok { v with sustain := w } else .error .paramRejected
  | .attackMs => if legalTime w then .ok { v with attackMs := w } else .error .paramRejected
  | .decayMs => if legalTime w then .ok { v with decayMs := w } else .error .paramRejected
  | .releaseMs => if legalTime w then .ok { v with releaseMs := w } else .error .paramRejected
  | .scale => if legalScale w && !v.bound then .ok { v with scale := w } else .error .paramRejected
  | .expr => if legalTime w then .ok { v with expr := w, dirty := true } else .error .paramRejected
  | .modScale =>
    if legalModScale w then .ok { v with modScale := w, dirty := true } else .error .paramRejected
  | .current =>
    if legalLevel w then .ok { v with current := w, dirty := true } else .error .paramRejected
  | .vstat => .error .badRegister
  | .vbind => .error .badRegister
  | .timer => .error .badRegister
  | .delta => .error .badRegister
  | .target => .error .badRegister
  | .susCap => .error .badRegister
  | .lastCode => .error .badRegister

/-- A host write to a voice register (40_host_access.md R181). -/
def State.writeVoice (v : Nat) (r : VoiceReg) (w : Word) (s : State) : State :=
  match writeVoiceReg w (s.voice v) r with
  | .ok x => s.setVoice v x
  | .error e => s.raise e (BitVec.ofNat 8 v) 0xFE#8

/-- CFG_W0[i] <- w (40_host_access.md R189). -/
def State.writeCfgW0 (i : Nat) (w : Word) (s : State) : State :=
  { s with table := s.table.modify i (fun d => { d with w0 := w }) }

/-- CFG_W1[i] <- w (40_host_access.md R189). -/
def State.writeCfgW1 (i : Nat) (w : Word) (s : State) : State :=
  { s with table := s.table.modify i (fun d => { d with w1 := w }) }

/-- A host write refused because its register is read-only (40_host_access.md R182). -/
def State.refuseWrite (r : Reg) (s : State) : State := s.raise .badRegister (regIndex r) 0xFE#8

/-- A host write to any register but CMD (40_host_access.md R181). -/
def State.writeReg (r : Reg) (w : Word) (s : State) : State :=
  match r with
  | .gctrl => { s with modSel := w.getLsbD 0 }
  | .err => s.clearErr w
  | .tickDt => if legalTime w then { s with tickDt := w } else s.raise .paramRejected 0#8 0xFE#8
  | .convStatus => if w.getLsbD 1 then { s with ready := false } else s
  | .adcCfg => { s with adcGain := w.extractLsb' 0 3, adcRate := w.extractLsb' 3 3 }
  | .cfgW0 i => s.writeCfgW0 i w
  | .cfgW1 i => s.writeCfgW1 i w
  | .voice v x => s.writeVoice v x w
  | .cmd => s
  | .id => s.refuseWrite r
  | .params => s.refuseWrite r
  | .lastErr => s.refuseWrite r
  | .modTri => s.refuseWrite r
  | .modSin => s.refuseWrite r
  | .beginResult => s.refuseWrite r
  | .aalstat => s.refuseWrite r
  | .convResult => s.refuseWrite r
  | .groupCount _ => s.refuseWrite r
  | .bstat0 _ => s.refuseWrite r
  | .bstat1 _ => s.refuseWrite r
  | .buf _ _ => s.refuseWrite r
  | .dev _ => s.refuseWrite r

/-! ### Commands -/

/-- A command word that fails a decode check has no effect but the error record, with INDEX the word's
IDX and OPC its opcode (30_encoding.md R147, R148; 60_exceptions.md R373). -/
def State.badCommandWord (w : Word) (s : State) : State := s.raise .badCommand (cmdIdx w) (cmdOpc w)

/-- Execute(w): decode a command word and run the command to completion (40_host_access.md R188). The
command decoder answers no host access; those two arms stand with the failed decode. -/
def execCommand (w : Word) (s : State) : Result :=
  match decodeCommand w with
  | .ok .nop => execNop s
  | .ok (.newvoice v group channel) => execNewvoice v group channel s
  | .ok (.start v) => execStart v s
  | .ok (.endNote v) => execEndNote v s
  | .ok (.process v) => execProcess v s
  | .ok (.update v) => execUpdate v s
  | .ok .tick => execTick s
  | .ok .beginAal => execBegin s
  | .ok (.setao d value) => execSetao d value s
  | .ok (.setdo d value) => execSetdo d value s
  | .ok .flush => execFlush s
  | .ok (.startconv d) => execStartconv d s
  | .ok .poll => execPoll s
  | .ok (.validate b) => execValidate b s
  | .ok (.resetboard b) => execResetboard b s
  | .ok (.rd _) => .next (s.badCommandWord w)
  | .ok (.wr _ _) => .next (s.badCommandWord w)
  | .error _ => .next (s.badCommandWord w)

/-- WR (40_host_access.md R181). -/
def execWr (addr : HostAddr) (data : Word) (s : State) : Result :=
  match s.regOf addr with
  | none => .next (s.raise .badRegister 0#8 0xFE#8)
  | some .cmd => execCommand data s
  | some r => .next (s.writeReg r data)

end Sys2Proof.Machine
end

