-- ==== Sys2Proof/Machine/Dispatch.lean ====
section
/-! DEFINITION. The one dispatch from an instruction to its meaning (spec/opcode_table.json). -/

namespace Sys2Proof.Machine

def exec (i : Instr) (s : State) : Host.Outcome State Fault Refusal :=
  match i with
  | .rd addr => Sys2Proof.Machine.execRd addr s
  | .wr addr data => Sys2Proof.Machine.execWr addr data s
  | .nop => Sys2Proof.Machine.execNop s
  | .newvoice v group channel => Sys2Proof.Machine.execNewvoice v group channel s
  | .start v => Sys2Proof.Machine.execStart v s
  | .endNote v => Sys2Proof.Machine.execEndNote v s
  | .process v => Sys2Proof.Machine.execProcess v s
  | .update v => Sys2Proof.Machine.execUpdate v s
  | .tick => Sys2Proof.Machine.execTick s
  | .beginAal => Sys2Proof.Machine.execBegin s
  | .setao d value => Sys2Proof.Machine.execSetao d value s
  | .setdo d value => Sys2Proof.Machine.execSetdo d value s
  | .flush => Sys2Proof.Machine.execFlush s
  | .startconv d => Sys2Proof.Machine.execStartconv d s
  | .poll => Sys2Proof.Machine.execPoll s
  | .validate b => Sys2Proof.Machine.execValidate b s
  | .resetboard b => Sys2Proof.Machine.execResetboard b s

end Sys2Proof.Machine
end

