-- ==== Sys2Proof/Machine/Step.lean ====
section
/-! DEFINITION. One step: the next host access, executed to completion (00_scope.md R3, 20_memory.md
R110). -/

namespace Sys2Proof.Machine

/-- One step takes the next host frame, decodes it and runs it; a malformed frame records BadRegister;
with no frame pending the block is idle and nothing changes (40_host_access.md R180, R181;
30_encoding.md R142; 60_exceptions.md R390). -/
def step (s : State) : Host.Outcome State Fault Refusal :=
  match s.takeFrame with
  | none => .next s
  | some (f, t) =>
    match decodeFrame f with
    | .ok i => exec i t
    | .error _ => .next (t.rejectFrame f)

/-- The state with an instruction word of the opcode table as the next host access: a frame row as
itself, a command row as the data of a write to CMD (30_encoding.md R158; log 1). -/
def State.withFetchWord (s : State) (nbits w : Nat) : State :=
  s.pushFrame (tableCode nbits w).hostFrame

end Sys2Proof.Machine
end

