-- ==== Sys2Proof/WellFormed.lean ====
section
/-! DEFINITION. The index checks on an instruction: check 3 of 30_encoding.md R148. The widths of the
operands already hold by their types, and checks 1 and 2 are the decoder's. -/

namespace Sys2Proof

/-- Check 3 of 30_encoding.md R148 for an instance with the given NUM_VOICES and NUM_GROUPS and the
current NBOARDS: a voice index is below NUM_VOICES, a NEWVOICE group below NUM_GROUPS, a board index
below NBOARDS. A device handle is not checked here (R148, last sentence). -/
def Instr.wellFormed (numVoices numGroups numBoards : Nat) : Instr → Bool
  | .rd _ => true
  | .wr _ _ => true
  | .nop => true
  | .newvoice v group _ => v.toNat < numVoices && group.toNat < numGroups
  | .start v => v.toNat < numVoices
  | .endNote v => v.toNat < numVoices
  | .process v => v.toNat < numVoices
  | .update v => v.toNat < numVoices
  | .tick => true
  | .beginAal => true
  | .setao _ _ => true
  | .setdo _ _ => true
  | .flush => true
  | .startconv _ => true
  | .poll => true
  | .validate b => b.toNat < numBoards
  | .resetboard b => b.toNat < numBoards

end Sys2Proof
end

