-- ==== Sys2Proof/Safety.lean ====
section
/-! DEFINITION. What a safe run keeps, in the terms the statements use: the invariants of the tables,
the voices and the levels, the order of the envelope states, and what a bus operation may change. -/

namespace Sys2Proof.Machine

open Sys2Proof.Config

/-! ### Encodings -/

/-- A reserved OPC value (30_encoding.md R147). -/
def reservedOpcode (opc : Byte) : Bool :=
  decide (0x07 ≤ opc.toNat ∧ opc.toNat ≤ 0x0F) || decide (0x18 ≤ opc.toNat)

/-- The bits of a command word that must be zero, by its opcode (30_encoding.md R144, R145, R146). -/
def mustBeZero (opc : Byte) : Word :=
  if opc = 0x00#8 ∨ opc = 0x06#8 ∨ opc = 0x10#8 ∨ opc = 0x13#8 ∨ opc = 0x15#8 then 0x00FFFFFF#32
  else if opc = 0x01#8 then 0x0000F000#32
  else if opc = 0x11#8 then 0x00000000#32
  else if opc = 0x12#8 then 0x0000FFFE#32
  else 0x0000FFFF#32

/-- The index of a command word is out of its range (30_encoding.md R145, R146, R148 check 3). -/
def indexOutOfRange (s : State) (w : Word) : Prop :=
  (0x01 ≤ (cmdOpc w).toNat ∧ (cmdOpc w).toNat ≤ 0x05 ∧ s.numVoices ≤ (cmdIdx w).toNat) ∨
  (cmdOpc w = 0x01#8 ∧ s.numGroups ≤ (w.extractLsb' 8 4).toNat) ∨
  ((cmdOpc w = 0x16#8 ∨ cmdOpc w = 0x17#8) ∧ s.numBoards ≤ (cmdIdx w).toNat)

/-- The subsystem label of an error whose code is above 0x13 (60_exceptions.md R372). -/
def labelOf (op : Byte) : Subsystem := if 0x10 ≤ op.toNat ∧ op.toNat ≤ 0x17 then .aal else .env

/-! ### The register map -/

/-- The host address of the register at offset o of voice v's window (10_state.md R48). -/
def voiceAddr (v o : Nat) : HostAddr := BitVec.ofNat 16 (0x1000 + 0x20 * v + o)

/-- The addresses that 20_memory.md R102 maps. -/
def mapped (numVoices numGroups a : Nat) : Prop :=
  a ≤ 0x0D ∨ (0x20 ≤ a ∧ a < 0x20 + numGroups) ∨ (0x40 ≤ a ∧ a ≤ 0x5F) ∨ (0x100 ≤ a ∧ a ≤ 0x11F) ∨
  (0x200 ≤ a ∧ a ≤ 0x2FF) ∨ (0x400 ≤ a ∧ a ≤ 0x4FF) ∨
  ∃ v o, v < numVoices ∧ o ≤ 0x11 ∧ a = 0x1000 + 0x20 * v + o

/-- The addresses of the read-only registers outside the voice windows (40_host_access.md R182). -/
def readOnlyGlobal (numGroups a : Nat) : Prop :=
  a ∈ [0x00, 0x01, 0x04, 0x06, 0x07, 0x09, 0x0A, 0x0C] ∨ (0x20 ≤ a ∧ a < 0x20 + numGroups) ∨
  (0x100 ≤ a ∧ a ≤ 0x11F) ∨ (0x200 ≤ a ∧ a ≤ 0x2FF) ∨ (0x400 ≤ a ∧ a ≤ 0x4FF)

/-- The word every address reads as after reset, with the default sizes (10_state.md R68). -/
def resetWord (a : Nat) : Word :=
  if a = 0x00 then 0x41445352#32
  else if a = 0x01 then 0x10100410#32
  else if a = 0x09 then 0xFFFFFFFF#32
  else if 0x40 ≤ a ∧ a ≤ 0x5F ∧ a % 2 = 0 then 0x000000FF#32
  else if 0x1000 ≤ a ∧ a < 0x1200 ∧ a % 0x20 = 0x0A then 0x3F800000#32
  else 0x00000000#32

/-! ### The arithmetic -/

/-- The least magnitude, in units of 2^-149, that rounds to an infinity: 2^128 less half the unit of the
largest finite value, the tie going to the even side (00_scope.md R10). -/
def overflowBound : Int := 2 ^ 277 - 2 ^ 252

/-- An infinity with the sign of a value that is not zero. -/
def infinityOf (x : Int) : F32 := if x < 0 then 0xFF800000#32 else 0x7F800000#32

/-! ### Board descriptors -/

/-- A terminator (30_encoding.md R153). -/
def Descriptor.Ends (d : Descriptor) : Prop :=
  d.w0.extractLsb' 0 8 = 0xFF#8 ∧ d.w1.extractLsb' 0 24 = 0#24

/-- A well-formed descriptor, conditions (a) to (f) of 30_encoding.md R154 in their order. -/
structure Descriptor.WellFormed (x : Descriptor) : Prop where
  cluster : x.w0.extractLsb' 0 8 = 0xFF#8 ∨ (x.w0.extractLsb' 0 8).toNat < 8
  slice : x.w0.extractLsb' 0 8 = 0xFF#8 → x.w0.extractLsb' 8 3 = 0#3
  reserved : x.w0.getLsbD 11 = false ∧ x.w0.getLsbD 19 = false ∧ x.w0.extractLsb' 23 9 = 0#9 ∧
    x.w1.extractLsb' 24 8 = 0#8
  oneCount : (x.nAo ≠ 0#8 ∧ x.nAi = 0#8 ∧ x.nDo = 0#8) ∨ (x.nAo = 0#8 ∧ x.nAi ≠ 0#8 ∧ x.nDo = 0#8) ∨
    (x.nAo = 0#8 ∧ x.nAi = 0#8 ∧ x.nDo ≠ 0#8)
  range : x.nAo.toNat ≤ 16 ∧ x.nAi.toNat ≤ 16 ∧ x.nDo.toNat ≤ 16 ∧
    (x.w0.extractLsb' 20 3 = 2#3 → x.nAo.toNat ≤ 4 ∧ x.nAi.toNat ≤ 4 ∧ x.nDo.toNat ≤ 4)
  family : (x.nAo ≠ 0#8 → x.w0.extractLsb' 20 3 = 0#3 ∨ x.w0.extractLsb' 20 3 = 1#3) ∧
    (x.nAi ≠ 0#8 → x.w0.extractLsb' 20 3 = 2#3) ∧ (x.nDo ≠ 0#8 → x.w0.extractLsb' 20 3 = 3#3)

/-- Descriptor i of a state's table. -/
def State.descriptor (i : Nat) (s : State) : Descriptor := s.table.getD i Descriptor.terminator

/-- The configuration table is the first n descriptors (30_encoding.md R153; 43_aal.md R281). -/
def State.TableLength (s : State) (n : Nat) : Prop :=
  n ≤ s.table.length ∧ (∀ j, j < n → ¬(s.descriptor j).Ends) ∧
    (n = s.table.length ∨ (s.descriptor n).Ends)

/-! ### The error record as a state change -/

/-- s with one error recorded, spelled out: the ERR bit k set, LAST_ERR written and one Log event
appended (60_exceptions.md R372). -/
def State.recorded (s : State) (k : Nat) (code index op : Byte) (label : Subsystem) : State :=
  { s with
    err := s.err ||| (1#9 <<< k)
    lastErr := { opc := op, index := index, code := code }
    trace := s.trace ++ [.log .error label code index] }

/-! ### What a bus operation may change -/

/-- t is s after some bus transactions and error records: every register but ERR and LAST_ERR is kept,
and the trace is extended (44_bus.md R346, R356; 60_exceptions.md R372). -/
structure BusEffect (s t : State) : Prop where
  rest : t = { s with err := t.err, lastErr := t.lastErr, trace := t.trace, busAnswers := t.busAnswers, freeIndex := t.freeIndex }
  trace : s.trace <+: t.trace

/-- The bus oracle answers success to each of the next n transactions. -/
def AnswersOk (n : Nat) (s : State) : Prop :=
  n ≤ s.busAnswers.length ∧ ∀ a ∈ s.busAnswers.take n, a.status = .ok

/-- The number of select transactions of a board's bracket: none on the root bus (44_bus.md R344). -/
def segCount (bd : Board) : Nat := if bd.cluster = none then 0 else 1

/-- The select of a board's bracket, answered success (44_bus.md R344). -/
def selectOk (p : Params) (bd : Board) : List Event :=
  match bd.cluster with
  | none => []
  | some c => [.txn .write (muxAddr p c) [1#8 <<< bd.slice.toNat] 0 .ok []]

/-- The deselect of a board's bracket, answered success (44_bus.md R345). -/
def deselectOk (p : Params) (bd : Board) : List Event :=
  match bd.cluster with
  | none => []
  | some c => [.txn .write (muxAddr p c) [0x00#8] 0 .ok []]

/-- A bracketed board operation of one transaction, all answered success (44_bus.md R346). -/
def bracketOk (p : Params) (bd : Board) (kind : TxnKind) (bytes : List Byte) : List Event :=
  selectOk p bd ++ [.txn kind bd.addr bytes 0 .ok []] ++ deselectOk p bd

/-- A bracketed register read of an ADC board, all answered success (44_bus.md R351). -/
def adcReadOk (p : Params) (bd : Board) (ptr : Byte) (a : BusAnswer) : List Event :=
  selectOk p bd ++
    [.txn .write bd.addr [ptr] 0 .ok [], .txn .read bd.addr [] 2 .ok [a.first, a.second]] ++
    deselectOk p bd

/-- The init sequence of a board, all answered success (43_aal.md R285). -/
def initOk (p : Params) (bd : Board) : List Event :=
  (initSeq p bd.family bd.nch).flatMap (fun t => bracketOk p bd .write t)

/-- The trace of a BEGIN that every device answers (43_aal.md R284, R285). -/
def beginOk (p : Params) (boards : List Board) : List Event :=
  [.busInit p.busClockHz] ++
    (((List.range maxClusters).filter (usesCluster boards)).map
      (fun c => Event.txn .probe (muxAddr p (BitVec.ofNat 3 c)) [] 0 .ok [])) ++
    boards.flatMap (fun bd => bracketOk p bd .probe [] ++ initOk p bd)

/-- The flush trace of one board that every device answers (43_aal.md R292). -/
def flushOk (p : Params) (free : Nat) (bd : Board) : List Event :=
  if bd.valid && bd.dirty != 0#16 then bracketOk p bd .write (flushFrame p free bd) else []

/-! ### Bus operations by hand, for every answer -/

/-- What one bus operation comes to, for the answers it gets: its status, the word an ADC register read
brings, its transactions in order, and the answers left for later operations (44_bus.md R346, R351). -/
structure BusRun where
  status : BusStatus
  word : Half
  txns : List Event
  rest : List BusAnswer
deriving DecidableEq, Repr

/-- The write of a multiplexer's control byte (44_bus.md R344, R345). -/
def segTxn (p : Params) (c : BitVec 3) (byte : Byte) (st : BusStatus) : Event :=
  .txn .write (muxAddr p c) [byte] 0 st []

/-- One write or probe at a board's address (44_bus.md R340). -/
def txnRun (bd : Board) (kind : TxnKind) (bytes : List Byte) (answers : List BusAnswer) : BusRun :=
  let a := answers.getD 0 default
  { status := a.status, word := 0#16, txns := [.txn kind bd.addr bytes 0 a.status []], rest := answers.drop 1 }

/-- A pointer write and, where it succeeded, the read of two bytes, the first byte the high one
(44_bus.md R351). -/
def registerRun (bd : Board) (ptr : Byte) (answers : List BusAnswer) : BusRun :=
  let a := answers.getD 1 default
  if (answers.getD 0 default).status = .ok then
    { status := a.status
      word := if a.status = .ok then a.first ++ a.second else 0#16
      txns := [.txn .write bd.addr [ptr] 0 .ok [],
        .txn .read bd.addr [] 2 a.status (if a.status = .ok then [a.first, a.second] else [])]
      rest := answers.drop 2 }
  else txnRun bd .write [ptr] answers

/-- A bus operation in its board's segment: on the root bus itself; behind a multiplexer the select, the
operation only where the select succeeded, and the deselect on both paths, whose status is no matter
(44_bus.md R344, R345, R346). -/
def inSegment (p : Params) (bd : Board) (op : List BusAnswer → BusRun) (answers : List BusAnswer) : BusRun :=
  match bd.cluster with
  | none => op answers
  | some c =>
    let select := (answers.getD 0 default).status
    if select = .ok then
      let r := op (answers.drop 1)
      { r with
        txns := [segTxn p c (1#8 <<< bd.slice.toNat) .ok] ++ r.txns ++
          [segTxn p c 0x00#8 (r.rest.getD 0 default).status]
        rest := r.rest.drop 1 }
    else
      { status := select
        word := 0#16
        txns := [segTxn p c (1#8 <<< bd.slice.toNat) select,
          segTxn p c 0x00#8 (answers.getD 1 default).status]
        rest := answers.drop 2 }

/-- A flush frame write, an init-sequence write, a configuration write or a board probe (44_bus.md R346). -/
def boardRun (p : Params) (bd : Board) (kind : TxnKind) (bytes : List Byte) (answers : List BusAnswer) :
    BusRun :=
  inSegment p bd (txnRun bd kind bytes) answers

/-- An ADC register read (44_bus.md R351). -/
def adcRun (p : Params) (bd : Board) (ptr : Byte) (answers : List BusAnswer) : BusRun :=
  inSegment p bd (registerRun bd ptr) answers

/-- s after an operation's transactions: each is an event of the trace, and each of another status than 0
records its error right after it (44_bus.md R340, R356). -/
def State.afterTxns (index op : Byte) : List Event → State → State
  | [], s => s
  | .txn kind a out n st bytesIn :: rest, s =>
    let t : State := { s with trace := s.trace ++ [.txn kind a out n st bytesIn] }
    State.afterTxns index op rest (if st = .ok then t else t.recorded 3 (statusCode st) index op .aal)
  | e :: rest, s => State.afterTxns index op rest { s with trace := s.trace ++ [e] }

/-- s after one bus operation, its answers used up. -/
def State.afterRun (index op : Byte) (r : BusRun) (s : State) : State :=
  { s.afterTxns index op r.txns with busAnswers := r.rest }

/-- s after a board's init writes, the rest abandoned at the first failure (43_aal.md R285). -/
def State.afterInit (bd : Board) (index op : Byte) : List (List Byte) → State → State
  | [], s => s
  | t :: rest, s =>
    let r := boardRun s.params bd .write t s.busAnswers
    if r.status = .ok then State.afterInit bd index op rest (s.afterRun index op r) else s.afterRun index op r

/-- s after the flush frames of the boards from index b on, one for each valid board with a pending value;
the boards themselves are as before (43_aal.md R292, R294). -/
def State.afterFrames (op : Byte) (b : Nat) : List Board → State → State
  | [], s => s
  | bd :: rest, s =>
    State.afterFrames op (b + 1) rest
      (if bd.valid && bd.dirty != 0#16 then
        s.afterRun (BitVec.ofNat 8 b) op
          (boardRun s.params bd .write (flushFrame s.params s.freeIndex bd) s.busAnswers)
      else s)

/-- The transactions of one bus operation at a board's address: a write, a probe, or a successful pointer
write with its read (44_bus.md R346, R351). -/
inductive BoardTxns (bd : Board) : List Event → Prop where
  | write (bytes : List Byte) (st : BusStatus) : BoardTxns bd [.txn .write bd.addr bytes 0 st []]
  | probe (st : BusStatus) : BoardTxns bd [.txn .probe bd.addr [] 0 st []]
  | register (ptr : Byte) (st : BusStatus) (bytesIn : List Byte) :
      BoardTxns bd [.txn .write bd.addr [ptr] 0 .ok [], .txn .read bd.addr [] 2 st bytesIn]

/-- The transactions of one bus operation in its segment: a root board's operation alone; behind a
multiplexer a successful select, the operation and the deselect, or a failed select and the deselect
(44_bus.md R344, R345, R346). -/
inductive SegmentTxns (p : Params) (bd : Board) : List Event → Prop where
  | root (ops : List Event) : bd.cluster = none → BoardTxns bd ops → SegmentTxns p bd ops
  | selected (c : BitVec 3) (ops : List Event) (st : BusStatus) : bd.cluster = some c → BoardTxns bd ops →
      SegmentTxns p bd ([segTxn p c (1#8 <<< bd.slice.toNat) .ok] ++ ops ++ [segTxn p c 0x00#8 st])
  | notSelected (c : BitVec 3) (st₁ st₂ : BusStatus) : bd.cluster = some c → st₁ ≠ .ok →
      SegmentTxns p bd [segTxn p c (1#8 <<< bd.slice.toNat) st₁, segTxn p c 0x00#8 st₂]

/-- Transactions that are whole bracketed operations of the boards, one after another and nothing else
(44_bus.md R346). -/
inductive Disciplined (p : Params) (boards : List Board) : List Event → Prop where
  | nil : Disciplined p boards []
  | board (bd : Board) (ops rest : List Event) : bd ∈ boards → SegmentTxns p bd ops →
      Disciplined p boards rest → Disciplined p boards (ops ++ rest)

/-! ### Kinds of events -/

/-- A transaction, and no other event. -/
def Event.isTxn : Event → Bool
  | .txn .. => true
  | _ => false

/-- A delivered sample, and no other event. -/
def Event.isSample : Event → Bool
  | .sampleReady _ => true
  | _ => false

/-- A log message of severity INFO, and no other event. -/
def Event.isInfo : Event → Bool
  | .log .info .. => true
  | _ => false

/-! ### The group counters and the activity of voices -/

/-- How many voices of the list are active in group g (10_state.md R67 (c)). -/
def activeIn (vs : List Voice) (g : Nat) : Nat :=
  vs.countP (fun v => v.active && decide (v.group.toNat = g))

/-- A voice is active exactly when it is not IDLE, its state is legal, and an active voice is bound
(10_state.md R67 (b), R50; 41_voice.md R202). -/
def Voice.coherent (v : Voice) : Bool :=
  v.active == (v.state != .idle) && v.state != .illegal6 && v.state != .illegal7 && (!v.active || v.bound)

/-- The counters' invariant (10_state.md R67 (b), (c); 41_voice.md R222). -/
structure CountInv (s : State) : Prop where
  voices : s.numVoices ≤ maxVoices
  coherent : ∀ v ∈ s.voices, v.coherent = true
  groups : ∀ v ∈ s.voices, v.bound = true → v.group.toNat < s.numGroups
  counts : ∀ g, g < s.numGroups → (s.groupCount.getD g 0#8).toNat = activeIn s.voices g

/-- One host access may take a voice from the first state to the second: a step along IDLE, START,
ATTACK, DECAY, SUSTAIN, RELEASE, IDLE, where one Process may pass through several (41_voice.md R205,
R219). -/
def EnvState.follows : EnvState → EnvState → Bool
  | .idle, .idle => true
  | .idle, .start => true
  | .start, .illegal6 => false
  | .start, .illegal7 => false
  | .start, _ => true
  | .attack, .attack => true
  | .attack, .decay => true
  | .attack, .sustain => true
  | .attack, .release => true
  | .attack, .idle => true
  | .decay, .decay => true
  | .decay, .sustain => true
  | .decay, .release => true
  | .decay, .idle => true
  | .sustain, .sustain => true
  | .sustain, .release => true
  | .sustain, .idle => true
  | .release, .release => true
  | .release, .idle => true
  | _, _ => false

/-! ### The levels -/

/-- Every f32 of a voice is in its legal set, and in a state with a ramp the timer, the divisor and the
delta are as its entry left them: no ramp divides by zero (41_voice.md R220, R221). -/
structure Voice.Levels (v : Voice) : Prop where
  top : legalLevel v.top = true
  bottom : legalLevel v.bottom = true
  sustain : legalLevel v.sustain = true
  current : legalLevel v.current = true
  susCap : legalLevel v.susCap = true
  attackMs : legalTime v.attackMs = true
  decayMs : legalTime v.decayMs = true
  releaseMs : legalTime v.releaseMs = true
  expr : legalTime v.expr = true
  scale : legalScale v.scale = true
  modScale : legalModScale v.modScale = true
  attack : v.state = .attack →
    legalTime v.timer = true ∧ legalTime v.target = true ∧ inUnitRange v.delta = true
  decay : v.state = .decay →
    legalTime v.timer = true ∧ legalTime v.target = true ∧ fle v.timer v.target = true ∧
      inUnitRange v.delta = true
  release : v.state = .release →
    legalTime v.target = true ∧ fle v.timer v.target = true ∧ inUnitRange v.delta = true

/-- The levels' invariant (10_state.md R67 (a), R36, R37; 41_voice.md R221). The two snap thresholds
are legal times, as their defaults are (00_scope.md R7). -/
structure LevelInv (s : State) : Prop where
  tickDt : legalTime s.tickDt = true
  modTri : inUnitRange s.modTri = true
  modSin : inUnitRange s.modSin = true
  decaySnap : legalTime s.params.decaySnapMs = true
  releaseSnap : legalTime s.params.releaseSnapMs = true
  voices : ∀ v ∈ s.voices, v.Levels

/-! ### The tables -/

/-- A board entry as BEGIN builds it and as the buffered writes keep it: a channel count in range, a
buffer of MAX_CH slots, a family that fits the capability, dirty bits of existing channels only, an
analog-in board never written and a digital-out slot 0 or 1 (10_state.md R63, R64; 30_encoding.md R154;
43_aal.md R293). -/
structure Board.Sound (bd : Board) : Prop where
  channels : 1 ≤ bd.nch.toNat ∧ bd.nch.toNat ≤ maxCh
  slots : bd.buf.length = maxCh
  fits : familyFits bd.kind bd.family = true
  root : bd.cluster = none → bd.slice = 0#3
  dirty : ∀ ch, bd.dirty.getLsbD ch = true → ch < bd.nch.toNat
  analogIn : bd.kind = .ai → bd.dirty = 0#16 ∧ ∀ x ∈ bd.buf, x = 0#16
  digital : bd.kind = .do_ → ∀ x ∈ bd.buf, x.toNat ≤ 1

/-- The tables' invariant: 16 descriptors, at most 16 boards, every board sound, the device table the
one BEGIN builds from the boards, no board before BEGIN, and an awaited conversion on an analog-in device
(10_state.md R42, R43, R47, R63, R65, R67 (f)). -/
structure TableInv (s : State) : Prop where
  descriptors : s.table.length = maxBoards
  count : s.numBoards ≤ maxBoards
  boards : ∀ bd ∈ s.boards, bd.Sound
  devices : s.devices = buildDevices s.params 0 s.boards
  begun : s.begun = false → s.boards = []
  awaiting : s.awaiting = true →
    s.awaitDev.toNat < s.numDevices ∧ (s.device s.awaitDev.toNat).kind = .ai

/-- What BEGIN fixes of a board for good (43_aal.md R281). -/
def Board.location (bd : Board) : Option (BitVec 3) × BitVec 3 × BusAddr × Family × BitVec 5 × Kind :=
  (bd.cluster, bd.slice, bd.addr, bd.family, bd.nch, bd.kind)

/-! ### A tick by hand -/

/-- Instructions run one after another. -/
def runAll : List Instr → State → Option State
  | [], s => some s
  | i :: rest, s =>
    match exec i s with
    | .next t => runAll rest t
    | .fault _ => none
    | .refused _ => none

/-- The commands a host issues for one tick by hand: PROCESS and UPDATE of each active voice, ascending,
then FLUSH (42_driver.md R266). -/
def tickByHand (s : State) : List Instr :=
  ((List.range s.numVoices).filter (fun v => (s.voice v).active)).flatMap
    (fun v => [.process (BitVec.ofNat 8 v), .update (BitVec.ofNat 8 v)]) ++ [.flush]

/-- s after the modulation source was ticked and its answer latched (42_driver.md R260, R261). -/
def State.latched (s : State) (a : ModAnswer) (rest : List ModAnswer) : State :=
  { s with
    trace := s.trace ++ [.modTick s.tickDt]
    modTri := a.tri
    modSin := a.sin
    modAnswers := rest }

/-! ### A run -/

/-- A step goes on: it answers a next state (60_exceptions.md R370). -/
def Continues (s : State) : Prop := ∃ t, step s = .next t

/-- The whole invariant of a safe run. -/
structure Inv (s : State) : Prop where
  counts : CountInv s
  levels : LevelInv s
  tables : TableInv s

end Sys2Proof.Machine
end

