-- ==== Sys2Proof/Certificates/Slice0/Obligations.lean ====
section
/-! DEFINITION. The statements for the provers. Each docstring names the rule of spec/ it rests on. A
conclusion `exec i s = .next t` with t written out says the instruction's whole effect: every register,
buffer, event and input not named in t is as in s. -/

open Sys2Proof Sys2Proof.Machine Sys2Proof.Config

/-! ### Encoding -/

/-- 30_encoding.md R141, R143 to R146: no bit of an encoding is dropped. -/
def Obligations.DecodeOfEncodeIsInstruction : Prop :=
  ∀ i : Instr, decode (encode i) = .ok i

/-- 30_encoding.md R140, R142, R148: a word that decodes is the encoding of what it decodes to, so no two
instructions share a word and no must-be-zero bit is ignored. -/
def Obligations.EncodeOfDecodeIsCode : Prop :=
  ∀ (c : Code) (i : Instr), decode c = .ok i → encode i = c

/-- Words written out in the spec: 30_encoding.md R158, 41_voice.md R201, 43_aal.md R299 and the opcodes of
30_encoding.md R144. -/
def Obligations.WrittenOutWordsDecode : Prop :=
  decodeTableWord 64 0x8000000802030000 = some (.wr 0x0008#16 0x02030000#32) ∧
  decodeTableWord 64 0x0000106300000000 = some (.rd 0x1063#16) ∧
  decodeTableWord 32 0x00000000 = some .nop ∧
  decodeTableWord 32 0x01000103 = some (.newvoice 0#8 1#4 3#8) ∧
  decodeTableWord 32 0x02030000 = some (.start 3#8) ∧
  decodeTableWord 32 0x06000000 = some .tick ∧
  decodeTableWord 32 0x11020ABC = some (.setao 2#8 0x0ABC#16) ∧
  decodeTableWord 32 0x12060001 = some (.setdo 6#8 1#1) ∧
  decodeTableWord 32 0x17000000 = some (.resetboard 0#8) ∧
  decodeTableWord 32 0x07000000 = none ∧
  decodeTableWord 32 0x00010000 = none ∧
  decodeTableWord 64 0x0000000000000001 = none

/-- 30_encoding.md R147, R148: a command word that fails any of the three decode checks has no effect but the
record of BadCommand, with INDEX the word's IDX and OPC its opcode. -/
def Obligations.FailedDecodeCheckOnlyRecords : Prop :=
  ∀ (s : State) (w : Word),
    (reservedOpcode (cmdOpc w) = true ∨ w &&& mustBeZero (cmdOpc w) ≠ 0#32 ∨ indexOutOfRange s w) →
      exec (.wr 0x0008#16 w) s =
        .next (s.recorded 0 0x20#8 (cmdIdx w) (cmdOpc w) (labelOf (cmdOpc w)))

/-! ### A step -/

/-- 00_scope.md R3 and 20_memory.md R110: a step takes the next host access, decodes it and runs it; with
no access pending nothing changes (60_exceptions.md R390). The list of accesses is the model's (log 1). -/
def Obligations.StepRunsTheNextHostAccess : Prop :=
  ∀ s : State,
    (s.frames = [] → step s = .next s) ∧
    ∀ (f : Frame) (rest : List Frame) (i : Instr), s.frames = f :: rest → decodeFrame f = .ok i →
      step s = exec i { s with frames := rest }

/-- 40_host_access.md R188 and 30_encoding.md R158: a command's word written to CMD runs the command to
completion within the step. -/
def Obligations.StepRunsEveryEncodedInstruction : Prop :=
  ∀ (s : State) (i : Instr),
    step { s with frames := (encode i).hostFrame :: s.frames } = exec i s

/-- 30_encoding.md R142: a malformed host frame performs no access and records BadRegister with INDEX 0;
a read frame returns 0. -/
def Obligations.MalformedFrameOnlyRecords : Prop :=
  ∀ (s : State) (f : Frame) (rest : List Frame), s.frames = f :: rest →
    (f.getLsbD 63 = true → f.extractLsb' 48 15 ≠ 0#15 →
      step s = .next ({ s with frames := rest }.recorded 8 0x23#8 0#8 0xFE#8 .env)) ∧
    (f.getLsbD 63 = false → (f.extractLsb' 48 15 ≠ 0#15 ∨ f.extractLsb' 0 32 ≠ 0#32) →
      step s = .next { { s with frames := rest }.recorded 8 0x23#8 0#8 0xFD#8 .env with
        replies := s.replies ++ [0x00000000#32] })

/-- 60_exceptions.md R370: nothing traps, aborts or transfers control; every instruction, and every step
from every state, answers a next state. -/
def Obligations.NothingTraps : Prop :=
  (∀ (i : Instr) (s : State), ∃ t, exec i s = .next t) ∧ ∀ s : State, Continues s

/-- 60_exceptions.md R372 with the codes, ERR bits and labels of R373. -/
def Obligations.ErrorRecordFollowsTheTable : Prop :=
  ∀ (s : State) (i o : Byte),
    s.raise (.busTransaction .bufferOverflow) i o = s.recorded 3 0x01#8 i o .aal ∧
    s.raise (.busTransaction .addressNack) i o = s.recorded 3 0x02#8 i o .aal ∧
    s.raise (.busTransaction .dataNack) i o = s.recorded 3 0x03#8 i o .aal ∧
    s.raise (.busTransaction .other) i o = s.recorded 3 0x04#8 i o .aal ∧
    s.raise (.busTransaction .timeout) i o = s.recorded 3 0x05#8 i o .aal ∧
    s.raise .boardUnreachable i o = s.recorded 4 0x10#8 i o .aal ∧
    s.raise .configurationEmpty i o = s.recorded 5 0x11#8 i o .aal ∧
    s.raise .configurationMalformed i o = s.recorded 6 0x12#8 i o .aal ∧
    s.raise .invalidLogicalDevice i o = s.recorded 1 0x13#8 i o .aal ∧
    s.raise .badCommand i o = s.recorded 0 0x20#8 i o (labelOf o) ∧
    s.raise .paramRejected i o = s.recorded 2 0x21#8 i o (labelOf o) ∧
    s.raise .voiceInvariant i o = s.recorded 7 0x22#8 i o (labelOf o) ∧
    s.raise .badRegister i o = s.recorded 8 0x23#8 i o (labelOf o)

/-- 10_state.md R39: an ERR bit stays set until the host writes 1 to it. -/
def Obligations.ErrBitStaysUntilCleared : Prop :=
  ∀ (s t : State) (k : Nat), step s = .next t → s.err.getLsbD k = true →
    (∀ (w : Word) (rest : List Frame),
      s.frames = (0x8000#16 ++ 0x0003#16 ++ w) :: rest → w.getLsbD k = false) →
    t.err.getLsbD k = true

/-! ### Reading registers -/

/-- 10_state.md R68: what every address reads as after reset, with the default sizes, and the trace. -/
def Obligations.ResetRegistersRead : Prop :=
  (∀ a : HostAddr, readReg State.reset a = resetWord a.toNat) ∧ State.reset.trace = []

/-- 20_memory.md R101, R102, R106 and 40_host_access.md R180: a read of a mapped address returns its word
and changes nothing; an access to any other address only records BadRegister, and a read of it returns 0.
The list of returned words is the model's (log 2). -/
def Obligations.HostAccessFollowsTheMap : Prop :=
  ∀ (s : State) (a : HostAddr), s.numGroups ≤ 16 →
    (mapped s.numVoices s.numGroups a.toNat →
      exec (.rd a) s = .next { s with replies := s.replies ++ [readReg s a] }) ∧
    (¬mapped s.numVoices s.numGroups a.toNat →
      exec (.rd a) s = .next { s.recorded 8 0x23#8 0#8 0xFD#8 .env with
        replies := s.replies ++ [0x00000000#32] } ∧
      ∀ w, exec (.wr a w) s = .next (s.recorded 8 0x23#8 0#8 0xFE#8 .env))

/-- 10_state.md R33 to R45: the fields of the global registers at their addresses; every reserved bit
reads 0. -/
def Obligations.GlobalRegistersRead : Prop :=
  ∀ s : State,
    readReg s 0x0000#16 = 0x41445352#32 ∧
    readReg s 0x0001#16 =
      16#8 ++ 16#8 ++ BitVec.ofNat 8 s.numGroups ++ BitVec.ofNat 8 s.numVoices ∧
    readReg s 0x0002#16 = 0#31 ++ ofBit s.modSel ∧
    readReg s 0x0003#16 = 0#23 ++ s.err ∧
    readReg s 0x0004#16 = 0#8 ++ s.lastErr.opc ++ s.lastErr.index ++ s.lastErr.code ∧
    readReg s 0x0005#16 = s.tickDt ∧
    readReg s 0x0006#16 = s.modTri ∧
    readReg s 0x0007#16 = s.modSin ∧
    readReg s 0x0008#16 = 0#32 ∧
    readReg s 0x0009#16 = s.beginResult ∧
    readReg s 0x000A#16 =
      0#7 ++ BitVec.ofNat 9 s.numDevices ++ BitVec.ofNat 8 s.numBoards ++ 0#7 ++ ofBit s.begun ∧
    readReg s 0x000B#16 = 0#16 ++ s.awaitDev ++ 0#6 ++ ofBit s.ready ++ ofBit s.awaiting ∧
    readReg s 0x000C#16 = s.convResult ∧
    readReg s 0x000D#16 = 0#26 ++ s.adcRate ++ s.adcGain

/-- 10_state.md R46, R47, R63, R64, R65 and 20_memory.md R102: the tables at their addresses; an entry at
or beyond NBOARDS or NDEVICES reads 0. The first clauses are the codes of KIND and FAMILY (30_encoding.md
R151) and the byte of CLUSTER. -/
def Obligations.TableRegistersRead : Prop :=
  (kindCode .ao = 0#2 ∧ kindCode .ai = 1#2 ∧ kindCode .do_ = 2#2) ∧
  (familyCode .dacSel = 0#3 ∧ familyCode .dacFull = 1#3 ∧ familyCode .adc = 2#3 ∧ familyCode .gpio = 3#3) ∧
  (clusterByte none = 0xFF#8 ∧ ∀ c : BitVec 3, clusterByte (some c) = 0#5 ++ c) ∧
  ∀ s : State,
    (∀ g, g < s.numGroups → g < 16 →
      readReg s (BitVec.ofNat 16 (0x20 + g)) = 0#24 ++ s.groupCount.getD g 0#8) ∧
    (∀ i, i < 16 →
      readReg s (BitVec.ofNat 16 (0x40 + 2 * i)) = (s.descriptor i).w0 ∧
      readReg s (BitVec.ofNat 16 (0x41 + 2 * i)) = (s.descriptor i).w1) ∧
    (∀ b, b < 16 →
      (b < s.numBoards →
        readReg s (BitVec.ofNat 16 (0x100 + 2 * b)) =
          ofBit (s.board b).valid ++ 0#8 ++ familyCode (s.board b).family ++ 0#1 ++ (s.board b).addr ++
            0#1 ++ (s.board b).slice ++ clusterByte (s.board b).cluster ∧
        readReg s (BitVec.ofNat 16 (0x101 + 2 * b)) =
          0#9 ++ kindCode (s.board b).kind ++ (s.board b).nch ++ (s.board b).dirty) ∧
      (s.numBoards ≤ b →
        readReg s (BitVec.ofNat 16 (0x100 + 2 * b)) = 0#32 ∧
        readReg s (BitVec.ofNat 16 (0x101 + 2 * b)) = 0#32) ∧
      ∀ ch, ch < 16 →
        readReg s (BitVec.ofNat 16 (0x200 + 16 * b + ch)) = 0#16 ++ (s.board b).buf.getD ch 0#16) ∧
    ∀ d, d < 256 →
      (d < s.numDevices →
        readReg s (BitVec.ofNat 16 (0x400 + d)) =
          1#1 ++ 0#12 ++ (s.device d).adcSel ++ 0#2 ++ kindCode (s.device d).kind ++
            (s.device d).channel ++ (s.device d).board) ∧
      (s.numDevices ≤ d → readReg s (BitVec.ofNat 16 (0x400 + d)) = 0#32)

/-- 10_state.md R48 to R62: the registers of voice v's window at 0x1000 + 0x20 v. The first clauses are
the codes of STATE (R50). -/
def Obligations.VoiceRegistersRead : Prop :=
  (stateCode .idle = 0#3 ∧ stateCode .start = 1#3 ∧ stateCode .attack = 2#3 ∧ stateCode .decay = 3#3 ∧
    stateCode .sustain = 4#3 ∧ stateCode .release = 5#3 ∧ stateCode .illegal6 = 6#3 ∧
    stateCode .illegal7 = 7#3) ∧
  ∀ (s : State) (v : Nat), v < s.numVoices → v < 64 →
    readReg s (voiceAddr v 0x00) =
      0#27 ++ ofBit (s.voice v).pedal ++ ofBit (decide ((s.voice v).dmode = .invert)) ++
        ofBit (s.voice v).dualUse ++ ofBit (s.voice v).modEn ++ ofBit (s.voice v).mute ∧
    readReg s (voiceAddr v 0x01) =
      0#23 ++ ofBit (s.voice v).bound ++ ofBit (s.voice v).dirty ++ ofBit (s.voice v).noDecay ++
        ofBit (s.voice v).peak ++ ofBit (s.voice v).trigEnd ++ ofBit (s.voice v).active ++
        stateCode (s.voice v).state ∧
    readReg s (voiceAddr v 0x02) = 0#20 ++ (s.voice v).group ++ (s.voice v).channel ∧
    readReg s (voiceAddr v 0x03) = (s.voice v).top ∧
    readReg s (voiceAddr v 0x04) = (s.voice v).bottom ∧
    readReg s (voiceAddr v 0x05) = (s.voice v).sustain ∧
    readReg s (voiceAddr v 0x06) = (s.voice v).attackMs ∧
    readReg s (voiceAddr v 0x07) = (s.voice v).decayMs ∧
    readReg s (voiceAddr v 0x08) = (s.voice v).releaseMs ∧
    readReg s (voiceAddr v 0x09) = (s.voice v).scale ∧
    readReg s (voiceAddr v 0x0A) = (s.voice v).expr ∧
    readReg s (voiceAddr v 0x0B) = (s.voice v).modScale ∧
    readReg s (voiceAddr v 0x0C) = (s.voice v).current ∧
    readReg s (voiceAddr v 0x0D) = (s.voice v).timer ∧
    readReg s (voiceAddr v 0x0E) = (s.voice v).delta ∧
    readReg s (voiceAddr v 0x0F) = (s.voice v).target ∧
    readReg s (voiceAddr v 0x10) = (s.voice v).susCap ∧
    readReg s (voiceAddr v 0x11) = 0#16 ++ (s.voice v).lastCode

/-! ### Writing registers -/

/-- 40_host_access.md R182: a write to a read-only register is refused. -/
def Obligations.ReadOnlyWriteIsRefused : Prop :=
  ∀ (s : State) (w : Word),
    (∀ a : HostAddr, s.numGroups ≤ 16 → readOnlyGlobal s.numGroups a.toNat →
      exec (.wr a w) s = .next (s.recorded 8 0x23#8 0#8 0xFE#8 .env)) ∧
    ∀ v o : Nat, v < s.numVoices → v < 64 → o ∈ [0x01, 0x02, 0x0D, 0x0E, 0x0F, 0x10, 0x11] →
      exec (.wr (voiceAddr v o) w) s = .next (s.recorded 8 0x23#8 (BitVec.ofNat 8 v) 0xFE#8 .env)

/-- 40_host_access.md R187: ERR and CONV_STATUS.READY are write-1-to-clear, and neither write changes
LAST_ERR. -/
def Obligations.WriteOneClears : Prop :=
  ∀ (s : State) (w : Word),
    (∃ e : BitVec 9, exec (.wr 0x0003#16 w) s = .next { s with err := e } ∧
      ∀ k, k < 9 → e.getLsbD k = (s.err.getLsbD k && !w.getLsbD k)) ∧
    exec (.wr 0x000B#16 w) s = .next { s with ready := s.ready && !w.getLsbD 1 }

/-- 40_host_access.md R181, R183, R189: GCTRL and ADC_CFG store their fields and drop the rest; the
descriptor words store all 32 bits. -/
def Obligations.ControlWritesStore : Prop :=
  ∀ (s : State) (w : Word),
    exec (.wr 0x0002#16 w) s = .next { s with modSel := w.getLsbD 0 } ∧
    exec (.wr 0x000D#16 w) s =
      .next { s with adcGain := w.extractLsb' 0 3, adcRate := w.extractLsb' 3 3 } ∧
    ∀ i, i < 16 →
      exec (.wr (BitVec.ofNat 16 (0x40 + 2 * i)) w) s =
        .next { s with table := s.table.set i { s.descriptor i with w0 := w } } ∧
      exec (.wr (BitVec.ofNat 16 (0x41 + 2 * i)) w) s =
        .next { s with table := s.table.set i { s.descriptor i with w1 := w } }

/-- 40_host_access.md R184 with R185 and R186: a checked f32 store takes a legal value and refuses any
other. Clauses: TOP, BOTTOM, SUSTAIN, CURRENT in [0, 1]; the times, EXPR and TICK_DT at least 0; SCALE in
[0, 65535] and unbound; MODSCALE finite. -/
def Obligations.CheckedStoreTakesLegalValuesOnly : Prop :=
  ∀ (s : State) (v : Nat) (w : Word), v < s.numVoices → v < 64 →
    let x := s.voice v
    let finite := w.extractLsb' 23 8 ≠ 0xFF#8
    let put (y : Voice) : State := { s with voices := s.voices.set v y }
    let refused : State := s.recorded 2 0x21#8 (BitVec.ofNat 8 v) 0xFE#8 .env
    (finite ∧ fge w fZero = true ∧ fle w fOne = true →
      exec (.wr (voiceAddr v 0x03) w) s = .next (put { x with top := w }) ∧
      exec (.wr (voiceAddr v 0x04) w) s = .next (put { x with bottom := w }) ∧
      exec (.wr (voiceAddr v 0x05) w) s = .next (put { x with sustain := w }) ∧
      exec (.wr (voiceAddr v 0x0C) w) s = .next (put { x with current := w, dirty := true })) ∧
    (¬(finite ∧ fge w fZero = true ∧ fle w fOne = true) →
      ∀ o ∈ [0x03, 0x04, 0x05, 0x0C], exec (.wr (voiceAddr v o) w) s = .next refused) ∧
    (finite ∧ fge w fZero = true →
      exec (.wr (voiceAddr v 0x06) w) s = .next (put { x with attackMs := w }) ∧
      exec (.wr (voiceAddr v 0x07) w) s = .next (put { x with decayMs := w }) ∧
      exec (.wr (voiceAddr v 0x08) w) s = .next (put { x with releaseMs := w }) ∧
      exec (.wr (voiceAddr v 0x0A) w) s = .next (put { x with expr := w, dirty := true }) ∧
      exec (.wr 0x0005#16 w) s = .next { s with tickDt := w }) ∧
    (¬(finite ∧ fge w fZero = true) →
      (∀ o ∈ [0x06, 0x07, 0x08, 0x0A], exec (.wr (voiceAddr v o) w) s = .next refused) ∧
      exec (.wr 0x0005#16 w) s = .next (s.recorded 2 0x21#8 0#8 0xFE#8 .env)) ∧
    (finite ∧ fge w fZero = true ∧ fle w f65535 = true ∧ x.bound = false →
      exec (.wr (voiceAddr v 0x09) w) s = .next (put { x with scale := w })) ∧
    (¬(finite ∧ fge w fZero = true ∧ fle w f65535 = true ∧ x.bound = false) →
      exec (.wr (voiceAddr v 0x09) w) s = .next refused) ∧
    (finite →
      exec (.wr (voiceAddr v 0x0B) w) s = .next (put { x with modScale := w, dirty := true })) ∧
    (¬finite → exec (.wr (voiceAddr v 0x0B) w) s = .next refused)

/-- 40_host_access.md R181, R186 and 10_state.md R49: a write of VCTRL stores bits 4..0 and sets DIRTY. -/
def Obligations.VctrlWriteStoresAndMarksDirty : Prop :=
  ∀ (s : State) (v : Nat) (w : Word), v < s.numVoices → v < 64 →
    exec (.wr (voiceAddr v 0x00) w) s = .next (s.setVoice v
      { s.voice v with
        mute := w.getLsbD 0
        modEn := w.getLsbD 1
        dualUse := w.getLsbD 2
        dmode := if w.getLsbD 3 then .invert else .normal
        pedal := w.getLsbD 4
        dirty := true })

/-- 20_memory.md R106 and 40_host_access.md R181: a host write other than of CMD changes what no other
address reads as, but for ERR, LAST_ERR and the written voice's VSTAT, which holds its DIRTY flag. -/
def Obligations.HostWriteLeavesOtherAddresses : Prop :=
  ∀ (s t : State) (a b : HostAddr) (w : Word), a ≠ 0x0008#16 → exec (.wr a w) s = .next t →
    b ≠ a → b ≠ 0x0003#16 → b ≠ 0x0004#16 →
    ¬(0x1000 ≤ a.toNat ∧ b = voiceAddr ((a.toNat - 0x1000) / 0x20) 0x01) →
    readReg t b = readReg s b

/-! ### Voices -/

/-- 41_voice.md R201: NEWVOICE binds an unbound voice once and for all. -/
def Obligations.NewvoiceBindsOnce : Prop :=
  ∀ (s : State) (v : Byte) (g : BitVec 4) (ch : Byte), v.toNat < s.numVoices → g.toNat < s.numGroups →
    ((s.voice v.toNat).bound = false →
      exec (.newvoice v g ch) s = .next (s.setVoice v.toNat
        { s.voice v.toNat with channel := ch, group := g, bound := true, dirty := true })) ∧
    ((s.voice v.toNat).bound = true →
      exec (.newvoice v g ch) s = .next (s.recorded 0 0x20#8 v 0x01#8 .env))

/-- 41_voice.md R202: START activates a bound, inactive, unmuted voice with a non-zero TOP and counts it in
its group; on any other voice it is a no-op. -/
def Obligations.StartActivatesOrDoesNothing : Prop :=
  ∀ (s : State) (v : Byte), v.toNat < s.numVoices →
    let x := s.voice v.toNat
    (x.bound = true ∧ x.active = false ∧ feq x.top fZero = false ∧ x.mute = false →
      exec (.start v) s = .next
        { s with
          voices := s.voices.set v.toNat
            { x with active := true, state := .start, trigEnd := false, peak := false }
          groupCount := s.groupCount.set x.group.toNat (s.groupCount.getD x.group.toNat 0#8 + 1#8) }) ∧
    (¬(x.bound = true ∧ x.active = false ∧ feq x.top fZero = false ∧ x.mute = false) →
      exec (.start v) s = .next s)

/-- 41_voice.md R203: END sets TRIGEND of an active voice, and STATE stays; on an inactive one it is a
no-op. -/
def Obligations.EndOnlySetsTriggerEnd : Prop :=
  ∀ (s : State) (v : Byte), v.toNat < s.numVoices →
    ((s.voice v.toNat).active = true →
      exec (.endNote v) s =
        .next (s.setVoice v.toNat { s.voice v.toNat with trigEnd := true })) ∧
    ((s.voice v.toNat).active = false → exec (.endNote v) s = .next s)

/-- 41_voice.md R204, R205, R207: PROCESS of an inactive IDLE voice does nothing; of a voice in START it is
PROCESS of the voice as START's entry actions leave it in ATTACK, with DIRTY set since the state changes. -/
def Obligations.ProcessEntersAttackInTheSameCall : Prop :=
  ∀ (s : State) (v : Byte), v.toNat < s.numVoices →
    let x := s.voice v.toNat
    (x.active = false → x.state = .idle → exec (.process v) s = .next s) ∧
    (x.active = true → x.state = .start →
      exec (.process v) s = exec (.process v)
        (s.setVoice v.toNat
          { x with
            susCap := x.sustain
            noDecay := flt x.decayMs s.params.noDecayMs
            timer := fZero
            delta := fsub x.top x.bottom
            target := x.attackMs
            state := .attack
            dirty := true }))

/-- 41_voice.md R205, R208: with TRIGEND set, PROCESS of a voice in ATTACK, DECAY or SUSTAIN is PROCESS of
the voice moved to RELEASE; in RELEASE the flag is dropped and nothing else changes. -/
def Obligations.ProcessTakesTriggerEnd : Prop :=
  ∀ (s : State) (v : Byte), v.toNat < s.numVoices →
    let x := s.voice v.toNat
    x.active = true → x.trigEnd = true →
    (x.state = .attack ∨ x.state = .decay ∨ x.state = .sustain →
      exec (.process v) s = exec (.process v)
        (s.setVoice v.toNat
          { x with
            trigEnd := false
            state := .release
            timer := x.releaseMs
            target := x.releaseMs
            delta := fsub x.current x.bottom
            dirty := true })) ∧
    (x.state = .release →
      exec (.process v) s = exec (.process v)
        (s.setVoice v.toNat { x with trigEnd := false }))

/-- 41_voice.md R209, R214: the ATTACK step of PROCESS. -/
def Obligations.ProcessInAttack : Prop :=
  ∀ (s : State) (v : Byte), v.toNat < s.numVoices →
    let x := s.voice v.toNat
    let timer := fadd x.timer s.tickDt
    let level := clamp01 (fadd x.bottom (fmul (fdiv timer x.target) x.delta))
    x.active = true → x.state = .attack → x.trigEnd = false →
    (fge timer x.target = false →
      exec (.process v) s = .next (s.setVoice v.toNat
        { x with
          timer := timer
          current := level
          dirty := x.dirty || decide (level ≠ x.current) || x.modEn })) ∧
    (fge timer x.target = true → x.noDecay = true →
      exec (.process v) s = .next (s.setVoice v.toNat
        { x with timer := timer, current := x.top, state := .sustain, dirty := true })) ∧
    (fge timer x.target = true → x.noDecay = false →
      exec (.process v) s = .next (s.setVoice v.toNat
        { x with
          timer := x.decayMs
          target := x.decayMs
          delta := fsub x.top x.susCap
          current := x.top
          state := .decay
          dirty := true }))

/-- 41_voice.md R210, R214: the DECAY step of PROCESS. -/
def Obligations.ProcessInDecay : Prop :=
  ∀ (s : State) (v : Byte), v.toNat < s.numVoices →
    let x := s.voice v.toNat
    let timer := fsub x.timer s.tickDt
    let level := clamp01 (fadd x.susCap (fmul (fdiv timer x.target) x.delta))
    x.active = true → x.state = .decay → x.trigEnd = false →
    (fgt timer s.params.decaySnapMs = true →
      exec (.process v) s = .next (s.setVoice v.toNat
        { x with
          timer := timer
          current := level
          dirty := x.dirty || decide (level ≠ x.current) || x.modEn })) ∧
    (fgt timer s.params.decaySnapMs = false →
      exec (.process v) s = .next (s.setVoice v.toNat
        { x with
          timer := timer
          current := x.susCap
          state := .sustain
          peak := x.peak || fge x.susCap x.top
          dirty := true }))

/-- 41_voice.md R211, R214: the SUSTAIN step of PROCESS, with PEAK_RESNAP. -/
def Obligations.ProcessInSustain : Prop :=
  ∀ (s : State) (v : Byte), v.toNat < s.numVoices →
    let x := s.voice v.toNat
    x.active = true → x.state = .sustain → x.trigEnd = false →
    (x.peak = true ∧ x.dualUse = false ∧ fne x.current x.top = true →
      exec (.process v) s = .next (s.setVoice v.toNat
        { x with
          current := x.top
          peak := decide (s.params.peakResnap = .everyTick)
          dirty := x.dirty || decide (x.top ≠ x.current) || x.modEn })) ∧
    (¬(x.peak = true ∧ x.dualUse = false ∧ fne x.current x.top = true) →
      exec (.process v) s =
        .next (s.setVoice v.toNat { x with dirty := x.dirty || x.modEn }))

/-- 41_voice.md R206, R212, R214, R224: the RELEASE step of PROCESS: the ramp, the hold and the clear. -/
def Obligations.ProcessInRelease : Prop :=
  ∀ (s : State) (v : Byte), v.toNat < s.numVoices →
    let x := s.voice v.toNat
    let timer := fsub x.timer s.tickDt
    let level := clamp01 (fadd x.bottom (fmul (fdiv timer x.target) x.delta))
    let held := (x.dmode = .normal ∧ x.pedal = true) ∨ (x.dmode = .invert ∧ x.pedal = false)
    x.active = true → x.state = .release → x.trigEnd = false →
    (fgt timer s.params.releaseSnapMs = true →
      exec (.process v) s = .next (s.setVoice v.toNat
        { x with
          timer := timer
          current := level
          dirty := x.dirty || decide (level ≠ x.current) || x.modEn })) ∧
    (fgt timer s.params.releaseSnapMs = false → held →
      exec (.process v) s = .next (s.setVoice v.toNat
        { x with timer := timer, dirty := x.dirty || x.modEn })) ∧
    (fgt timer s.params.releaseSnapMs = false → ¬held →
      exec (.process v) s = .next
        { s with
          voices := s.voices.set v.toNat
            { x with
              timer := timer
              active := false
              state := .idle
              trigEnd := false
              peak := false
              dirty := true }
          groupCount := s.groupCount.set x.group.toNat (s.groupCount.getD x.group.toNat 0#8 - 1#8) })

/-- 41_voice.md R205, R206, R213, R214: PROCESS of an active voice in a state that no case knows records
VoiceInvariant and clears the voice. The last clause, an inactive voice that is not IDLE, is left without
MarkDirty: that is the model's choice (log 9). -/
def Obligations.ProcessForcesAnImpossibleVoiceClear : Prop :=
  ∀ (s : State) (v : Byte), v.toNat < s.numVoices →
    let x := s.voice v.toNat
    let cleared : Voice := { x with active := false, state := .idle, trigEnd := false, peak := false }
    let err := s.recorded 7 0x22#8 v 0x04#8 .env
    (x.active = true → x.trigEnd = false → x.state = .illegal6 ∨ x.state = .illegal7 →
      exec (.process v) s = .next
        { err with
          voices := s.voices.set v.toNat { cleared with dirty := true }
          groupCount := s.groupCount.set x.group.toNat (s.groupCount.getD x.group.toNat 0#8 - 1#8) }) ∧
    (x.active = true → x.trigEnd = false → x.state = .idle →
      exec (.process v) s = .next
        { err with
          voices := s.voices.set v.toNat { cleared with dirty := x.dirty || x.modEn }
          groupCount := s.groupCount.set x.group.toNat (s.groupCount.getD x.group.toNat 0#8 - 1#8) }) ∧
    (x.active = false → x.state ≠ .idle →
      exec (.process v) s = .next { err with voices := s.voices.set v.toNat cleared })

/-- 41_voice.md R215, R216 and 43_aal.md R289: UPDATE of a bound voice sends nothing unless DIRTY is set,
and otherwise computes the code from the modulated level, writes LASTCODE, clears DIRTY and makes the
buffered write, which a bad device turns into InvalidLogicalDevice and an invalid board drops. -/
def Obligations.UpdateSendsADirtyVoice : Prop :=
  ∀ (s : State) (v : Byte), v.toNat < s.numVoices →
    let x := s.voice v.toNat
    let m := if s.modSel then s.modSin else s.modTri
    let level := if x.modEn then clamp01 (fadd x.current (fmul (fmul x.current m) x.modScale)) else x.current
    let code := toCode (fmul (fmul level x.scale) x.expr)
    let sent : State := (s.setVoice v.toNat { x with lastCode := code, dirty := false })
    let d := s.device x.channel.toNat
    let bd := s.board d.board.toNat
    (x.bound = false → exec (.update v) s = .next (s.recorded 0 0x20#8 v 0x05#8 .env)) ∧
    (x.bound = true → x.dirty = false → exec (.update v) s = .next s) ∧
    (x.bound = true → x.dirty = true → x.channel.toNat < s.numDevices → d.kind = .ao → bd.valid = true →
      exec (.update v) s = .next (sent.setBoard d.board.toNat
        { bd with
          buf := bd.buf.set d.channel.toNat code
          dirty := bd.dirty ||| (1#16 <<< d.channel.toNat) })) ∧
    (x.bound = true → x.dirty = true → x.channel.toNat < s.numDevices → d.kind = .ao → bd.valid = false →
      exec (.update v) s = .next sent) ∧
    (x.bound = true → x.dirty = true → ¬(x.channel.toNat < s.numDevices ∧ d.kind = .ao) →
      exec (.update v) s = .next (sent.recorded 1 0x13#8 x.channel 0x05#8 .aal))

/-- 41_voice.md R217: the code of a level is 0 where it is not positive, 65535 from 65535 on, and its whole
part in between. A finite value is fInt whole units of 2^-149. -/
def Obligations.CodeIsTheWholePart : Prop :=
  ∀ x : F32, fNaN x = false →
    (fgt x fZero = false → toCode x = 0#16) ∧
    (fge x f65535 = true → toCode x = 65535#16) ∧
    (fgt x fZero = true → fge x f65535 = false →
      ((toCode x).toNat : Int) * 2 ^ 149 ≤ fInt x ∧ fInt x < ((toCode x).toNat + 1 : Int) * 2 ^ 149)

/-- 00_scope.md R10: fadd and fsub answer a nearest binary32 value to the exact sum and difference, and of
two equally near the one with the even fraction; the answer is finite exactly below the overflow bound and
an infinity of the exact value's sign from there on. The comparisons order the values of all operands but
NaNs, -0 equal to +0 (fInt of an infinity is 2^277 with its sign, beyond every finite value); with a NaN
only fne holds; clamp01 follows from them. Values in units of 2^-149. -/
def Obligations.SumsRoundAndComparisonsOrderByValue : Prop :=
  (∀ a b c : F32, fFinite a = true → fFinite b = true → fFinite c = true →
    (fFinite (fadd a b) = true →
      |fInt (fadd a b) - (fInt a + fInt b)| ≤ |fInt c - (fInt a + fInt b)| ∧
      (|fInt (fadd a b) - (fInt a + fInt b)| = |fInt c - (fInt a + fInt b)| →
        fInt c ≠ fInt (fadd a b) → (fadd a b).getLsbD 0 = false)) ∧
    (fFinite (fsub a b) = true →
      |fInt (fsub a b) - (fInt a - fInt b)| ≤ |fInt c - (fInt a - fInt b)| ∧
      (|fInt (fsub a b) - (fInt a - fInt b)| = |fInt c - (fInt a - fInt b)| →
        fInt c ≠ fInt (fsub a b) → (fsub a b).getLsbD 0 = false))) ∧
  (∀ a b : F32, fFinite a = true → fFinite b = true →
    (|fInt a + fInt b| < overflowBound → fFinite (fadd a b) = true) ∧
    (overflowBound ≤ |fInt a + fInt b| → fadd a b = infinityOf (fInt a + fInt b)) ∧
    (|fInt a - fInt b| < overflowBound → fFinite (fsub a b) = true) ∧
    (overflowBound ≤ |fInt a - fInt b| → fsub a b = infinityOf (fInt a - fInt b))) ∧
  (∀ a b : F32, fNaN a = false → fNaN b = false →
    (flt a b = true ↔ fInt a < fInt b) ∧ (fle a b = true ↔ fInt a ≤ fInt b) ∧
    (fgt a b = true ↔ fInt b < fInt a) ∧ (fge a b = true ↔ fInt b ≤ fInt a) ∧
    (feq a b = true ↔ fInt a = fInt b) ∧ (fne a b = true ↔ fInt a ≠ fInt b)) ∧
  (∀ a b : F32, fNaN a = true ∨ fNaN b = true →
    flt a b = false ∧ fle a b = false ∧ fgt a b = false ∧ fge a b = false ∧ feq a b = false ∧
      fne a b = true) ∧
  feq 0x80000000#32 0x00000000#32 = true ∧
  ∀ x : F32,
    (fNaN x = false → fInt x < 0 → clamp01 x = 0x00000000#32) ∧
    (fNaN x = false → 2 ^ 149 < fInt x → clamp01 x = 0x3F800000#32) ∧
    (fNaN x = true ∨ (0 ≤ fInt x ∧ fInt x ≤ 2 ^ 149) → clamp01 x = x)

/-- 00_scope.md R10: fmul and fdiv answer a nearest binary32 value to the exact product and quotient, and of
two equally near the one with the even fraction; the answer is finite exactly below the overflow bound and
an infinity of the exact value's sign from there on. The distances are scaled by 2^149 for the product and by
the divisor for the quotient, so that they are whole. -/
def Obligations.ProductAndQuotientAreRoundedToNearestEven : Prop :=
  (∀ a b c : F32, fFinite a = true → fFinite b = true → fFinite c = true →
    (fFinite (fmul a b) = true →
      |fInt (fmul a b) * 2 ^ 149 - fInt a * fInt b| ≤ |fInt c * 2 ^ 149 - fInt a * fInt b| ∧
      (|fInt (fmul a b) * 2 ^ 149 - fInt a * fInt b| = |fInt c * 2 ^ 149 - fInt a * fInt b| →
        fInt c ≠ fInt (fmul a b) → (fmul a b).getLsbD 0 = false)) ∧
    (fInt b ≠ 0 → fFinite (fdiv a b) = true →
      |fInt (fdiv a b) * fInt b - fInt a * 2 ^ 149| ≤ |fInt c * fInt b - fInt a * 2 ^ 149| ∧
      (|fInt (fdiv a b) * fInt b - fInt a * 2 ^ 149| = |fInt c * fInt b - fInt a * 2 ^ 149| →
        fInt c ≠ fInt (fdiv a b) → (fdiv a b).getLsbD 0 = false))) ∧
  ∀ a b : F32, fFinite a = true → fFinite b = true →
    (|fInt a * fInt b| < overflowBound * 2 ^ 149 → fFinite (fmul a b) = true) ∧
    (overflowBound * 2 ^ 149 ≤ |fInt a * fInt b| → fmul a b = infinityOf (fInt a * fInt b)) ∧
    (fInt b ≠ 0 → |fInt a| * 2 ^ 149 < overflowBound * |fInt b| → fFinite (fdiv a b) = true) ∧
    (fInt b ≠ 0 → overflowBound * |fInt b| ≤ |fInt a| * 2 ^ 149 →
      fdiv a b = infinityOf (fInt a * fInt b))

/-! ### TICK -/

/-- 42_driver.md R260, R262, R266: TICK is the modulation tick and latch, then PROCESS and UPDATE of each
active voice in ascending order, then FLUSH, run by hand; only LAST_ERR.OPC can differ. The modulation
answer is the scripted one; where none is, the model draws the free value of its counter (log 4, log 5). -/
def Obligations.TickIsTheHandSequence : Prop :=
  ∀ s : State, s.numVoices ≤ 64 → (∀ x ∈ s.voices, x.active = true → x.bound = true) →
    (∀ a rest, s.modAnswers = a :: rest →
      ∃ t u, exec .tick s = .next t ∧ runAll (tickByHand s) (s.latched a rest) = some u ∧
        t = { u with lastErr := { u.lastErr with opc := t.lastErr.opc } }) ∧
    (s.modAnswers = [] →
      ∃ t u, exec .tick s = .next t ∧
        runAll (tickByHand s)
          ({ s with freeIndex := s.freeIndex + 1 }.latched (freeModAnswer s.freeIndex) []) = some u ∧
        t = { u with lastErr := { u.lastErr with opc := t.lastErr.opc } })

/-- 42_driver.md R260, R262 and 60_exceptions.md R382: a voice that is inactive before a TICK is unchanged
by it, whatever the other voices and the bus do. -/
def Obligations.TickLeavesInactiveVoices : Prop :=
  ∀ (s t : State) (v : Nat), exec .tick s = .next t → (s.voice v).active = false →
    t.voice v = s.voice v

/-! ### BEGIN -/

/-- 43_aal.md R282, R283: BEGIN on an empty table, and on a table whose first malformed descriptor is i,
records the error, sets BEGIN_RESULT to -1 and does nothing else. -/
def Obligations.BeginOnABadTable : Prop :=
  ∀ (s : State) (n : Nat), s.begun = false → s.TableLength n →
    (n = 0 →
      exec .beginAal s = .next
        ({ s with beginResult := 0xFFFFFFFF#32 }.recorded 5 0x11#8 0#8 0x10#8 .aal)) ∧
    ∀ i, i < n → (∀ j, j < i → (s.descriptor j).WellFormed) → ¬(s.descriptor i).WellFormed →
    exec .beginAal s = .next
      ({ s with beginResult := 0xFFFFFFFF#32 }.recorded 6 0x12#8 (BitVec.ofNat 8 i) 0x10#8 .aal)

/-- 43_aal.md R288: BEGIN builds the tables at most once; one that fails leaves BEGUN at 0. -/
def Obligations.BeginBuildsAtMostOnce : Prop :=
  ∀ s : State,
    (s.begun = true → exec .beginAal s = .next (s.recorded 0 0x20#8 0#8 0x10#8 .aal)) ∧
    ∀ n, s.begun = false → s.TableLength n →
      (n = 0 ∨ ∃ i, i < n ∧ ¬(s.descriptor i).WellFormed) →
      ∃ t, exec .beginAal s = .next t ∧ t.begun = false

/-- 43_aal.md R280, R281, R286, R287: whatever the bus answers, BEGIN on n well-formed descriptors builds
board b from descriptor b with no pending value, numbers the devices densely in board and channel order,
counts the invalid boards, and changes nothing else but the error record and the trace. -/
def Obligations.BeginBuildsTheTables : Prop :=
  ∀ (s : State) (n : Nat), s.begun = false → s.TableLength n → 0 < n →
    (∀ j, j < n → (s.descriptor j).WellFormed) →
    ∃ t, exec .beginAal s = .next t ∧
      BusEffect
        { s with
          boards := t.boards
          devices := t.devices
          begun := true
          beginResult := BitVec.ofNat 32 (t.boards.countP (fun bd => !bd.valid)) } t ∧
      t.numBoards = n ∧
      (∀ b, b < n →
        clusterByte (t.board b).cluster = (s.descriptor b).w0.extractLsb' 0 8 ∧
        (t.board b).slice = (s.descriptor b).w0.extractLsb' 8 3 ∧
        (t.board b).addr = (s.descriptor b).w0.extractLsb' 12 7 ∧
        familyCode (t.board b).family = (s.descriptor b).w0.extractLsb' 20 3 ∧
        (t.board b).nch.toNat =
          (s.descriptor b).nAo.toNat + (s.descriptor b).nAi.toNat + (s.descriptor b).nDo.toNat ∧
        ((t.board b).kind = .ao ↔ (s.descriptor b).nAo ≠ 0#8) ∧
        ((t.board b).kind = .ai ↔ (s.descriptor b).nAi ≠ 0#8) ∧
        ((t.board b).kind = .do_ ↔ (s.descriptor b).nDo ≠ 0#8) ∧
        (t.board b).dirty = 0#16 ∧ (t.board b).buf = List.replicate 16 0#16) ∧
      t.numDevices = (t.boards.map (fun bd => bd.nch.toNat)).sum ∧
      ∀ b ch, b < n → ch < (t.board b).nch.toNat →
        t.device (((t.boards.take b).map (fun bd => bd.nch.toNat)).sum + ch) =
          { board := BitVec.ofNat 8 b
            channel := BitVec.ofNat 4 ch
            kind := (t.board b).kind
            adcSel := if (t.board b).kind = .ai then adcMuxCode s.params (BitVec.ofNat 4 ch) else 0#3 }

/-- 43_aal.md R280, R284, R285 and 44_bus.md R343 to R346, R350: with every transaction answered success,
BEGIN's trace is BusInit, one root probe of each used cluster in ascending order, then for each board its
bracketed probe and its bracketed init writes; every board is valid, BEGIN_RESULT is 0 and no error is
recorded. -/
def Obligations.BeginBringsUpAHealthyBus : Prop :=
  ∀ (s : State) (boards : List Board), s.begun = false → (configTable s.table).isEmpty = false →
    buildBoards 0 (configTable s.table) = .ok boards →
    AnswersOk ((beginOk s.params boards).countP Event.isTxn) s →
    exec .beginAal s = .next
      { s with
        boards := boards.map (fun bd => { bd with valid := true })
        devices := buildDevices s.params 0 boards
        begun := true
        beginResult := 0#32
        trace := s.trace ++ beginOk s.params boards
        busAnswers := s.busAnswers.drop ((beginOk s.params boards).countP Event.isTxn) }

/-! ### Buffered writes and the flush -/

/-- 43_aal.md R289, R290, R291 and 20_memory.md R108: SETAO buffers its value and SETDO its bit, each is
dropped silently on an invalid board, and each records InvalidLogicalDevice for a handle of another kind.
No transaction occurs. -/
def Obligations.SetaoAndSetdoBufferTheValue : Prop :=
  ∀ (s : State) (d : Byte) (value : Half) (bit : BitVec 1),
    let dev := s.device d.toNat
    let bd := s.board dev.board.toNat
    let written (x : Half) : State := s.setBoard dev.board.toNat
      { bd with
        buf := bd.buf.set dev.channel.toNat x
        dirty := bd.dirty ||| (1#16 <<< dev.channel.toNat) }
    (d.toNat < s.numDevices → dev.kind = .ao → bd.valid = true →
      exec (.setao d value) s = .next (written value)) ∧
    (d.toNat < s.numDevices → dev.kind = .ao → bd.valid = false → exec (.setao d value) s = .next s) ∧
    (¬(d.toNat < s.numDevices ∧ dev.kind = .ao) →
      exec (.setao d value) s = .next (s.recorded 1 0x13#8 d 0x11#8 .aal)) ∧
    (d.toNat < s.numDevices → dev.kind = .do_ → bd.valid = true →
      exec (.setdo d bit) s = .next (written (0#15 ++ bit))) ∧
    (d.toNat < s.numDevices → dev.kind = .do_ → bd.valid = false → exec (.setdo d bit) s = .next s) ∧
    (¬(d.toNat < s.numDevices ∧ dev.kind = .do_) →
      exec (.setdo d bit) s = .next (s.recorded 1 0x13#8 d 0x12#8 .aal))

/-- 43_aal.md R292, R294: whatever the bus answers, FLUSH clears the dirty mask of every valid board, keeps
every VALID, every buffer and every invalid board's mask, and changes nothing else but the error record and
the trace. -/
def Obligations.FlushClearsEveryValidBoard : Prop :=
  ∀ s : State, ∃ t, exec .flush s = .next t ∧
    t.boards = s.boards.map (fun bd => if bd.valid then { bd with dirty := 0#16 } else bd) ∧
    BusEffect { s with boards := t.boards } t

/-- 43_aal.md R292, R293 and 44_bus.md R344 to R346: with every transaction answered success, FLUSH sends
exactly one bracketed frame for each valid board with a pending value, in board order, and none for any
other board. The frame of a dirty ADC board, which the spec calls never needed, is the model's free value
(log 11). -/
def Obligations.FlushSendsOneFramePerDirtyBoard : Prop :=
  ∀ s : State,
    AnswersOk ((s.boards.flatMap (flushOk s.params s.freeIndex)).countP Event.isTxn) s →
    exec .flush s = .next
      { s with
        boards := s.boards.map (fun bd => if bd.valid then { bd with dirty := 0#16 } else bd)
        trace := s.trace ++ s.boards.flatMap (flushOk s.params s.freeIndex)
        busAnswers := s.busAnswers.drop
          ((s.boards.flatMap (flushOk s.params s.freeIndex)).countP Event.isTxn) }

/-- 43_aal.md R294: in one FLUSH every dirty valid board on the root bus gets its frame written, whatever
the bus answered to the boards before it. The second clause is FLUSH's whole effect for every answer of the
bus, a failed select, frame or deselect behind a multiplexer included: each valid dirty board's bracketed
frame in board order, each failure recorded with the board's index, the masks cleared and nothing else
changed (44_bus.md R346, R356; an ADC board's frame is the model's free value, log 11). -/
def Obligations.FlushIsolatesFailures : Prop :=
  (∀ (s t : State) (b : Nat), exec .flush s = .next t → b < s.numBoards →
    (s.board b).cluster = none → (s.board b).valid = true → (s.board b).dirty ≠ 0#16 →
    (s.board b).family ≠ .adc →
    ∃ st, Event.txn .write (s.board b).addr (flushFrame s.params 0 (s.board b)) 0 st [] ∈
      t.trace.drop s.trace.length) ∧
  ∀ s : State, 3 * s.numBoards ≤ s.busAnswers.length →
    exec .flush s = .next
      { s.afterFrames 0x13#8 0 s.boards with
        boards := s.boards.map (fun bd => if bd.valid then { bd with dirty := 0#16 } else bd) }

/-- 44_bus.md R347, R348, R349 for every FRAME_PREFIX, CHAN_BYTE and WIRE_PERM: after the family's first
bytes a selective frame has three bytes for each dirty channel; position k of a full-set frame carries byte
P(k) of every channel's bytes, high byte first; bit k of latch byte j is bit 0 of channel 8j + k, and 0
beyond the last channel. The first clauses are the three parameters' defaults and a table's first entry. -/
def Obligations.WireFramesCarryTheChannels : Prop :=
  ∀ (p : Params) (bd : Board),
    let frame := flushFrame p 0 bd
    let start := (framePrefix p bd.family).length
    let perm := wirePerm p bd.family bd.nch
    (p.framePrefix = [] → framePrefix p bd.family = []) ∧
    (∀ x rest, p.framePrefix = (bd.family, x) :: rest → framePrefix p bd.family = x) ∧
    (∀ ch : BitVec 4, p.chanByte = [] → chanByte p bd.family ch = 0#4 ++ ch) ∧
    (∀ (ch : BitVec 4) x rest, p.chanByte = ((bd.family, ch), x) :: rest → chanByte p bd.family ch = x) ∧
    (p.wirePerm = [] → perm.length = 2 * bd.nch.toNat ∧ ∀ k, k < 2 * bd.nch.toNat → perm.getD k 0 = k) ∧
    (∀ x rest, p.wirePerm = ((bd.family, bd.nch), x) :: rest → perm = x) ∧
    (bd.family ≠ .adc → frame.take start = framePrefix p bd.family) ∧
    (bd.family = .dacSel →
      frame.length = start + 3 * (List.range bd.nch.toNat).countP (fun ch => bd.dirty.getLsbD ch) ∧
      ∀ ch, ch < bd.nch.toNat → bd.nch.toNat ≤ 16 → bd.dirty.getLsbD ch = true →
        (frame.drop (start + 3 * (List.range ch).countP (fun c => bd.dirty.getLsbD c))).take 3 =
          [chanByte p .dacSel (BitVec.ofNat 4 ch), (bd.slot ch).extractLsb' 8 8,
            (bd.slot ch).extractLsb' 0 8]) ∧
    (bd.family = .dacFull →
      frame.length = start + perm.length ∧
      ∀ k ch, k < perm.length → ch < bd.nch.toNat →
        (perm.getD k 0 = 2 * ch → frame.getD (start + k) 0#8 = (bd.slot ch).extractLsb' 8 8) ∧
        (perm.getD k 0 = 2 * ch + 1 → frame.getD (start + k) 0#8 = (bd.slot ch).extractLsb' 0 8)) ∧
    (bd.family = .gpio →
      frame.length = start + (bd.nch.toNat + 7) / 8 ∧
      ∀ j k, j < (bd.nch.toNat + 7) / 8 → k < 8 →
        (frame.getD (start + j) 0#8).getLsbD k =
          (decide (8 * j + k < bd.nch.toNat) && (bd.slot (8 * j + k)).getLsbD 0))

/-! ### Conversions -/

/-- 43_aal.md R295 and 44_bus.md R352, R356: STARTCONV on an analog-in device of a valid board writes
the configuration word in one bracket and remembers the device; a failed write on a root board is recorded
and remembers nothing; an invalid board drops it; any other handle is InvalidLogicalDevice. The first
clause is the default ADC_CONFIG word. The last clause is the whole effect on every bus and for every answer
(44_bus.md R346): a failed select or write behind a multiplexer remembers nothing, a deselect that alone
fails is only recorded. -/
def Obligations.StartconvRemembersTheDevice : Prop :=
  ∀ (s : State) (d : Byte),
    let dev := s.device d.toNat
    let b := dev.board.toNat
    let bd := s.board b
    let w := adcConfig s.params dev.adcSel s.adcGain s.adcRate
    let bytes := [s.params.adcPtrConfig, w.extractLsb' 8 8, w.extractLsb' 0 8]
    (s.params.adcConfig = [] →
      w = 0x8000#16 ||| (dev.adcSel.setWidth 16 <<< 12) ||| (s.adcGain.setWidth 16 <<< 9) ||| 0x0100#16 |||
        (s.adcRate.setWidth 16 <<< 5) ||| 0x0003#16) ∧
    (d.toNat < s.numDevices → dev.kind = .ai → bd.valid = true → AnswersOk (2 * segCount bd + 1) s →
      exec (.startconv d) s = .next
        { s with
          awaiting := true
          awaitDev := d
          trace := s.trace ++ bracketOk s.params bd .write bytes
          busAnswers := s.busAnswers.drop (2 * segCount bd + 1) }) ∧
    (∀ a rest, d.toNat < s.numDevices → dev.kind = .ai → bd.valid = true → bd.cluster = none →
      s.busAnswers = a :: rest → a.status ≠ .ok →
      exec (.startconv d) s = .next
        ({ s with
          trace := s.trace ++ [Event.txn .write bd.addr bytes 0 a.status []]
          busAnswers := rest }.recorded 3 (statusCode a.status) dev.board 0x14#8 .aal)) ∧
    (d.toNat < s.numDevices → dev.kind = .ai → bd.valid = false → exec (.startconv d) s = .next s) ∧
    (¬(d.toNat < s.numDevices ∧ dev.kind = .ai) →
      exec (.startconv d) s = .next (s.recorded 1 0x13#8 d 0x14#8 .aal)) ∧
    (d.toNat < s.numDevices → dev.kind = .ai → bd.valid = true →
      2 * segCount bd + 1 ≤ s.busAnswers.length →
      let r := boardRun s.params bd .write bytes s.busAnswers
      let t := s.afterRun dev.board 0x14#8 r
      (r.status = .ok → exec (.startconv d) s = .next { t with awaiting := true, awaitDev := d }) ∧
      (r.status ≠ .ok → exec (.startconv d) s = .next t))

/-- 43_aal.md R296 and 44_bus.md R351, R353: POLL with nothing awaited or an invalid board does nothing;
with the status word busy it reads the status and nothing else; with it not busy it reads the result and
delivers the sample. The answers to the two reads are the ones after the select and the pointer write.
The next two clauses are a root board's failed pointer write and failed status read: the failure is
recorded, nothing is delivered and the conversion stays awaited (60_exceptions.md R374). The last clause is
the whole effect on every bus and for every answer (44_bus.md R346): so too after a failed result read, its
pointer write or its two bytes, and after a failed select; a deselect that alone fails is only recorded. -/
def Obligations.PollDeliversACompletedConversion : Prop :=
  ∀ s : State,
    let dev := s.device s.awaitDev.toNat
    let bd := s.board dev.board.toNat
    let k := segCount bd
    let status := s.busAnswers.getD (k + 1) default
    let result := s.busAnswers.getD (3 * k + 3) default
    let pointer (st : BusStatus) : Event := .txn .write bd.addr [s.params.adcPtrConfig] 0 st []
    (s.awaiting = false → exec .poll s = .next s) ∧
    (s.awaiting = true → bd.valid = false → exec .poll s = .next s) ∧
    (s.awaiting = true → bd.valid = true → AnswersOk (2 * k + 2) s →
      adcNotBusy s.params (status.first ++ status.second) = false →
      exec .poll s = .next
        { s with
          trace := s.trace ++ adcReadOk s.params bd s.params.adcPtrConfig status
          busAnswers := s.busAnswers.drop (2 * k + 2) }) ∧
    (s.awaiting = true → bd.valid = true → AnswersOk (4 * k + 4) s →
      adcNotBusy s.params (status.first ++ status.second) = true →
      exec .poll s = .next
        { s with
          convResult := (result.first ++ result.second).signExtend 32
          ready := true
          awaiting := false
          trace := s.trace ++ adcReadOk s.params bd s.params.adcPtrConfig status ++
            adcReadOk s.params bd s.params.adcPtrConv result ++
            [.sampleReady (result.first ++ result.second)]
          busAnswers := s.busAnswers.drop (4 * k + 4) }) ∧
    (∀ (a₁ a₂ : BusAnswer) (rest : List BusAnswer),
      s.awaiting = true → bd.valid = true → bd.cluster = none → s.busAnswers = a₁ :: a₂ :: rest →
      (a₁.status ≠ .ok →
        exec .poll s = .next
          ({ s with
            trace := s.trace ++ [pointer a₁.status]
            busAnswers := a₂ :: rest }.recorded 3 (statusCode a₁.status) dev.board 0x15#8 .aal)) ∧
      (a₁.status = .ok → a₂.status ≠ .ok →
        exec .poll s = .next
          ({ s with
            trace := s.trace ++ [pointer .ok, Event.txn .read bd.addr [] 2 a₂.status []]
            busAnswers := rest }.recorded 3 (statusCode a₂.status) dev.board 0x15#8 .aal))) ∧
    (s.awaiting = true → bd.valid = true → 4 * k + 4 ≤ s.busAnswers.length →
      let r₁ := adcRun s.params bd s.params.adcPtrConfig s.busAnswers
      let r₂ := adcRun s.params bd s.params.adcPtrConv r₁.rest
      let t := s.afterRun dev.board 0x15#8 r₁
      let u := t.afterRun dev.board 0x15#8 r₂
      (r₁.status ≠ .ok ∨ adcNotBusy s.params r₁.word = false → exec .poll s = .next t) ∧
      (r₁.status = .ok → adcNotBusy s.params r₁.word = true → r₂.status ≠ .ok → exec .poll s = .next u) ∧
      (r₁.status = .ok → adcNotBusy s.params r₁.word = true → r₂.status = .ok →
        exec .poll s = .next
          { u with
            convResult := r₂.word.signExtend 32
            ready := true
            awaiting := false
            trace := u.trace ++ [.sampleReady r₂.word] }))

/-! ### Board validity -/

/-- 43_aal.md R297 and 60_exceptions.md R381: VALIDATE probes the board in its bracket and sets VALID from
the answer; on a root board a failure records the transaction, then BoardUnreachable. The last clause is the
whole effect on every bus and for every answer: a failed select counts as a failed probe, and a deselect that
alone fails is recorded and does not change VALID. -/
def Obligations.ValidateSetsValidity : Prop :=
  ∀ (s : State) (b : Byte), b.toNat < s.numBoards →
    let bd := s.board b.toNat
    (AnswersOk (2 * segCount bd + 1) s →
      exec (.validate b) s = .next
        { s with
          boards := s.boards.set b.toNat { bd with valid := true }
          trace := s.trace ++ bracketOk s.params bd .probe []
          busAnswers := s.busAnswers.drop (2 * segCount bd + 1) }) ∧
    (∀ a rest, bd.cluster = none → s.busAnswers = a :: rest → a.status ≠ .ok →
      exec (.validate b) s = .next
        (({ s with
          boards := s.boards.set b.toNat { bd with valid := false }
          trace := s.trace ++ [Event.txn .probe bd.addr [] 0 a.status []]
          busAnswers := rest }.recorded 3 (statusCode a.status) b 0x16#8 .aal).recorded
            4 0x10#8 b 0x16#8 .aal)) ∧
    (2 * segCount bd + 1 ≤ s.busAnswers.length →
      let r := boardRun s.params bd .probe [] s.busAnswers
      let t : State := { s.afterRun b 0x16#8 r with
        boards := s.boards.set b.toNat { bd with valid := decide (r.status = .ok) } }
      (r.status = .ok → exec (.validate b) s = .next t) ∧
      (r.status ≠ .ok → exec (.validate b) s = .next (t.recorded 4 0x10#8 b 0x16#8 .aal)))

/-- 44_bus.md R344 to R346: whatever the bus answers, the transactions of every instruction (FLUSH, TICK,
RESETBOARD, VALIDATE, STARTCONV, POLL, BEGIN or a WR that runs one) are whole bracketed operations of the
boards, after the multiplexer probes of a BEGIN that builds the tables: behind a multiplexer the select, the
operation only where the select succeeded, and the deselect on every path. The second clause gives VALIDATE's
transactions for every three answers; the board is valid exactly where both the select and the probe
succeeded. -/
def Obligations.SegmentIsDeselectedOnEveryPath : Prop :=
  (∀ (i : Instr) (s : State), ∃ t probes ops, exec i s = .next t ∧
    (t.trace.drop s.trace.length).filter Event.isTxn = probes ++ ops ∧
    Disciplined s.params t.boards ops ∧
    (s.begun = true ∨ t.begun = false → probes = []) ∧
    ∀ e ∈ probes, ∃ c st, e = .txn .probe (muxAddr s.params c) [] 0 st []) ∧
  ∀ (s : State) (b : Byte) (c : BitVec 3) (a₁ a₂ a₃ : BusAnswer) (rest : List BusAnswer),
    b.toNat < s.numBoards → (s.board b.toNat).cluster = some c → s.busAnswers = a₁ :: a₂ :: a₃ :: rest →
    ∃ t, exec (.validate b) s = .next t ∧
      (t.trace.drop s.trace.length).filter Event.isTxn =
        (if a₁.status = .ok then
          [segTxn s.params c (1#8 <<< (s.board b.toNat).slice.toNat) .ok,
           .txn .probe (s.board b.toNat).addr [] 0 a₂.status [],
           segTxn s.params c 0x00#8 a₃.status]
        else
          [segTxn s.params c (1#8 <<< (s.board b.toNat).slice.toNat) a₁.status,
           segTxn s.params c 0x00#8 a₂.status]) ∧
      t.boards = s.boards.set b.toNat
        { s.board b.toNat with valid := decide (a₁.status = .ok ∧ a₂.status = .ok) }

/-- 43_aal.md R298: whatever the bus answers, RESETBOARD clears the board's buffer and dirty mask and
changes no other board; with every transaction answered success the board is probed, initialised and
valid. The last clause is the whole effect on every bus and for every answer: a failed select or probe
records BoardUnreachable after it and initialises nothing, and a failed init write abandons the rest of the
init sequence (43_aal.md R285, R297). -/
def Obligations.ResetboardClearsTheBuffer : Prop :=
  ∀ (s : State) (b : Byte), b.toNat < s.numBoards →
    let bd := s.board b.toNat
    let ev := bracketOk s.params bd .probe [] ++ initOk s.params bd
    (∃ t ok, exec (.resetboard b) s = .next t ∧
      t.boards = s.boards.set b.toNat
        { bd with valid := ok, buf := List.replicate 16 0#16, dirty := 0#16 } ∧
      BusEffect { s with boards := t.boards } t) ∧
    (AnswersOk (ev.countP Event.isTxn) s →
      exec (.resetboard b) s = .next
        { s with
          boards := s.boards.set b.toNat
            { bd with valid := true, buf := List.replicate 16 0#16, dirty := 0#16 }
          trace := s.trace ++ ev
          busAnswers := s.busAnswers.drop (ev.countP Event.isTxn) }) ∧
    (3 + 3 * (initSeq s.params bd.family bd.nch).length ≤ s.busAnswers.length →
      let r := boardRun s.params bd .probe [] s.busAnswers
      let probed := s.afterRun b 0x17#8 r
      let boards := s.boards.set b.toNat
        { bd with valid := decide (r.status = .ok), buf := List.replicate 16 0#16, dirty := 0#16 }
      (r.status = .ok → exec (.resetboard b) s = .next
        { probed.afterInit bd b 0x17#8 (initSeq s.params bd.family bd.nch) with boards := boards }) ∧
      (r.status ≠ .ok → exec (.resetboard b) s = .next
        { probed.recorded 4 0x10#8 b 0x17#8 .aal with boards := boards }))

/-- 30_encoding.md R150: NOP has no effect on any state or on the trace, as an instruction and as the word
0x00000000 written to CMD; with a non-zero IDX or IMM it is illegal. -/
def Obligations.NopDoesNothing : Prop :=
  ∀ s : State, exec .nop s = .next s ∧ exec (.wr 0x0008#16 0x00000000#32) s = .next s ∧
    ∀ w : Word, cmdOpc w = 0x00#8 → w ≠ 0#32 →
      exec (.wr 0x0008#16 w) s = .next (s.recorded 0 0x20#8 (cmdIdx w) 0x00#8 .env)

/-! ### Invariants -/

/-- 10_state.md R67 at R68's values: the invariants hold after reset. -/
def Obligations.ResetSatisfiesTheInvariants : Prop :=
  Inv State.reset

/-- 10_state.md R67 (b), (c) and 41_voice.md R222: every step keeps each group counter equal to the number
of its active voices, and ACTIVE equal to STATE not IDLE. -/
def Obligations.EveryStepKeepsTheGroupCounters : Prop :=
  ∀ s t : State, CountInv s → step s = .next t → CountInv t

/-- 10_state.md R67 (a) and 41_voice.md R220, R221: every step keeps every level in [0, 1] and every f32
register in its legal set, so no NaN or infinity enters a level. -/
def Obligations.EveryStepKeepsTheLevels : Prop :=
  ∀ s t : State, LevelInv s → step s = .next t → LevelInv t

/-- 10_state.md R63, R65, R67 (e), (f) and 43_aal.md R293: every step keeps the board table sound and the
device table the one BEGIN builds. -/
def Obligations.EveryStepKeepsTheTables : Prop :=
  ∀ s t : State, TableInv s → step s = .next t → TableInv t

/-- 41_voice.md R219: every step takes every voice along IDLE, START, ATTACK, DECAY, SUSTAIN, RELEASE,
IDLE, in every state whose counters' invariant holds. -/
def Obligations.EveryStepFollowsTheEnvelope : Prop :=
  ∀ (s t : State) (v : Nat), CountInv s → step s = .next t →
    EnvState.follows (s.voice v).state (t.voice v).state = true

/-- 20_memory.md R112 and 60_exceptions.md R377: the trace only grows, and no INFO message is emitted. -/
def Obligations.TraceOnlyGrows : Prop :=
  ∀ s t : State, step s = .next t →
    s.trace <+: t.trace ∧ ∀ e ∈ t.trace.drop s.trace.length, e.isInfo = false

/-- 60_exceptions.md R376: a step delivers a sample only by a POLL of an awaited conversion, and then
exactly one, with READY set and the conversion no longer awaited. -/
def Obligations.SampleComesOnlyFromPoll : Prop :=
  ∀ s t : State, step s = .next t → (t.trace.drop s.trace.length).any Event.isSample = true →
    (∃ rest, s.frames = (0x8000#16 ++ 0x0008#16 ++ 0x15000000#32) :: rest) ∧
    s.awaiting = true ∧ t.awaiting = false ∧ t.ready = true ∧
    (t.trace.drop s.trace.length).countP Event.isSample = 1

/-- 43_aal.md R281, R286, 10_state.md R67 (e), (f), R54 and 41_voice.md R201: the sizes and parameters never
change; once BEGUN, the boards' locations and counts and the device table are fixed; once bound, a voice's
channel, group and scale are fixed. -/
def Obligations.IdentityIsFixedForGood : Prop :=
  ∀ s t : State, step s = .next t →
    t.params = s.params ∧ t.numVoices = s.numVoices ∧ t.numGroups = s.numGroups ∧
    t.table.length = s.table.length ∧
    (s.begun = true → t.begun = true ∧ t.devices = s.devices ∧
      t.boards.map Board.location = s.boards.map Board.location) ∧
    ∀ v, (s.voice v).bound = true →
      (t.voice v).bound = true ∧ (t.voice v).channel = (s.voice v).channel ∧
      (t.voice v).group = (s.voice v).group ∧ (t.voice v).scale = (s.voice v).scale
end

