-- ==== Sys2Proof/Laws/Fields.lean ====
section
/-! SUPPORT. The fields of the words the encoder builds (30_encoding.md R141, R143). -/

namespace Sys2Proof

/-- OPC of a command word. -/
@[simp] theorem cmdOpc_commandWord (opc idx : Byte) (imm : Half) :
    cmdOpc (commandWord opc idx imm) = opc := by
  refine BitVec.eq_of_getLsbD_eq fun i hi => ?_
  simp only [cmdOpc, commandWord, BitVec.getLsbD_extractLsb', BitVec.getLsbD_append]
  interval_cases i <;> simp

/-- IDX of a command word. -/
@[simp] theorem cmdIdx_commandWord (opc idx : Byte) (imm : Half) :
    cmdIdx (commandWord opc idx imm) = idx := by
  refine BitVec.eq_of_getLsbD_eq fun i hi => ?_
  simp only [cmdIdx, commandWord, BitVec.getLsbD_extractLsb', BitVec.getLsbD_append]
  interval_cases i <;> simp

/-- IMM of a command word. -/
@[simp] theorem cmdImm_commandWord (opc idx : Byte) (imm : Half) :
    cmdImm (commandWord opc idx imm) = imm := by
  refine BitVec.eq_of_getLsbD_eq fun i hi => ?_
  simp only [cmdImm, commandWord, BitVec.getLsbD_extractLsb', BitVec.getLsbD_append]
  interval_cases i <;> simp

/-- A word is built of its three fields. -/
theorem commandWord_fields (w : Word) : commandWord (cmdOpc w) (cmdIdx w) (cmdImm w) = w := by
  refine BitVec.eq_of_getLsbD_eq fun i hi => ?_
  simp only [cmdOpc, cmdIdx, cmdImm, commandWord, BitVec.getLsbD_extractLsb', BitVec.getLsbD_append]
  interval_cases i <;> simp

section frames
variable (hd addr : BitVec 16) (data : Word)

/-- W of a frame built of its three parts. -/
@[simp] theorem frameW_append : frameW (hd ++ addr ++ data) = hd.getLsbD 15 := by
  simp only [frameW, BitVec.getLsbD_append]
  simp

/-- RES of a frame built of its three parts. -/
@[simp] theorem frameRes_append : frameRes (hd ++ addr ++ data) = hd.extractLsb' 0 15 := by
  refine BitVec.eq_of_getLsbD_eq fun i hi => ?_
  simp only [frameRes, BitVec.getLsbD_extractLsb', BitVec.getLsbD_append]
  interval_cases i <;> simp

/-- ADDR of a frame built of its three parts. -/
@[simp] theorem frameAddr_append : frameAddr (hd ++ addr ++ data) = addr := by
  refine BitVec.eq_of_getLsbD_eq fun i hi => ?_
  simp only [frameAddr, BitVec.getLsbD_extractLsb', BitVec.getLsbD_append]
  interval_cases i <;> simp

/-- DATA of a frame built of its three parts. -/
@[simp] theorem frameData_append : frameData (hd ++ addr ++ data) = data := by
  refine BitVec.eq_of_getLsbD_eq fun i hi => ?_
  simp only [frameData, BitVec.getLsbD_extractLsb', BitVec.getLsbD_append]
  interval_cases i <;> simp

end frames

end Sys2Proof
end

