-- ==== Sys2Proof/Laws/State.lean ====
section
/-! SUPPORT. One lemma per field per plain update of the state, each true by rfl. -/

namespace Sys2Proof.Machine

variable (s : State)

/-! Emit appends one event (20_memory.md R112). -/

@[simp] theorem State.emit_modSel (e : Event) : (s.emit e).modSel = s.modSel := rfl
@[simp] theorem State.emit_err (e : Event) : (s.emit e).err = s.err := rfl
@[simp] theorem State.emit_lastErr (e : Event) : (s.emit e).lastErr = s.lastErr := rfl
@[simp] theorem State.emit_tickDt (e : Event) : (s.emit e).tickDt = s.tickDt := rfl
@[simp] theorem State.emit_modTri (e : Event) : (s.emit e).modTri = s.modTri := rfl
@[simp] theorem State.emit_modSin (e : Event) : (s.emit e).modSin = s.modSin := rfl
@[simp] theorem State.emit_beginResult (e : Event) : (s.emit e).beginResult = s.beginResult := rfl
@[simp] theorem State.emit_begun (e : Event) : (s.emit e).begun = s.begun := rfl
@[simp] theorem State.emit_awaiting (e : Event) : (s.emit e).awaiting = s.awaiting := rfl
@[simp] theorem State.emit_ready (e : Event) : (s.emit e).ready = s.ready := rfl
@[simp] theorem State.emit_awaitDev (e : Event) : (s.emit e).awaitDev = s.awaitDev := rfl
@[simp] theorem State.emit_convResult (e : Event) : (s.emit e).convResult = s.convResult := rfl
@[simp] theorem State.emit_adcGain (e : Event) : (s.emit e).adcGain = s.adcGain := rfl
@[simp] theorem State.emit_adcRate (e : Event) : (s.emit e).adcRate = s.adcRate := rfl
@[simp] theorem State.emit_groupCount (e : Event) : (s.emit e).groupCount = s.groupCount := rfl
@[simp] theorem State.emit_table (e : Event) : (s.emit e).table = s.table := rfl
@[simp] theorem State.emit_boards (e : Event) : (s.emit e).boards = s.boards := rfl
@[simp] theorem State.emit_devices (e : Event) : (s.emit e).devices = s.devices := rfl
@[simp] theorem State.emit_voices (e : Event) : (s.emit e).voices = s.voices := rfl
@[simp] theorem State.emit_trace (e : Event) : (s.emit e).trace = s.trace ++ [e] := rfl
@[simp] theorem State.emit_params (e : Event) : (s.emit e).params = s.params := rfl
@[simp] theorem State.emit_frames (e : Event) : (s.emit e).frames = s.frames := rfl
@[simp] theorem State.emit_replies (e : Event) : (s.emit e).replies = s.replies := rfl
@[simp] theorem State.emit_busAnswers (e : Event) : (s.emit e).busAnswers = s.busAnswers := rfl
@[simp] theorem State.emit_modAnswers (e : Event) : (s.emit e).modAnswers = s.modAnswers := rfl
@[simp] theorem State.emit_freeIndex (e : Event) : (s.emit e).freeIndex = s.freeIndex := rfl

/-! The error record writes ERR, LAST_ERR and one Log event (60_exceptions.md R372). -/

@[simp] theorem State.raise_modSel (e : ErrorKind) (i o : Byte) : (s.raise e i o).modSel = s.modSel := rfl
@[simp] theorem State.raise_err (e : ErrorKind) (i o : Byte) : (s.raise e i o).err = s.err ||| errorMask e := rfl
@[simp] theorem State.raise_lastErr (e : ErrorKind) (i o : Byte) : (s.raise e i o).lastErr = { opc := o, index := i, code := errorCode e } := rfl
@[simp] theorem State.raise_tickDt (e : ErrorKind) (i o : Byte) : (s.raise e i o).tickDt = s.tickDt := rfl
@[simp] theorem State.raise_modTri (e : ErrorKind) (i o : Byte) : (s.raise e i o).modTri = s.modTri := rfl
@[simp] theorem State.raise_modSin (e : ErrorKind) (i o : Byte) : (s.raise e i o).modSin = s.modSin := rfl
@[simp] theorem State.raise_beginResult (e : ErrorKind) (i o : Byte) : (s.raise e i o).beginResult = s.beginResult := rfl
@[simp] theorem State.raise_begun (e : ErrorKind) (i o : Byte) : (s.raise e i o).begun = s.begun := rfl
@[simp] theorem State.raise_awaiting (e : ErrorKind) (i o : Byte) : (s.raise e i o).awaiting = s.awaiting := rfl
@[simp] theorem State.raise_ready (e : ErrorKind) (i o : Byte) : (s.raise e i o).ready = s.ready := rfl
@[simp] theorem State.raise_awaitDev (e : ErrorKind) (i o : Byte) : (s.raise e i o).awaitDev = s.awaitDev := rfl
@[simp] theorem State.raise_convResult (e : ErrorKind) (i o : Byte) : (s.raise e i o).convResult = s.convResult := rfl
@[simp] theorem State.raise_adcGain (e : ErrorKind) (i o : Byte) : (s.raise e i o).adcGain = s.adcGain := rfl
@[simp] theorem State.raise_adcRate (e : ErrorKind) (i o : Byte) : (s.raise e i o).adcRate = s.adcRate := rfl
@[simp] theorem State.raise_groupCount (e : ErrorKind) (i o : Byte) : (s.raise e i o).groupCount = s.groupCount := rfl
@[simp] theorem State.raise_table (e : ErrorKind) (i o : Byte) : (s.raise e i o).table = s.table := rfl
@[simp] theorem State.raise_boards (e : ErrorKind) (i o : Byte) : (s.raise e i o).boards = s.boards := rfl
@[simp] theorem State.raise_devices (e : ErrorKind) (i o : Byte) : (s.raise e i o).devices = s.devices := rfl
@[simp] theorem State.raise_voices (e : ErrorKind) (i o : Byte) : (s.raise e i o).voices = s.voices := rfl
@[simp] theorem State.raise_trace (e : ErrorKind) (i o : Byte) : (s.raise e i o).trace = s.trace ++ [.log .error (subsystemOf (errorCode e) o) (errorCode e) i] := rfl
@[simp] theorem State.raise_params (e : ErrorKind) (i o : Byte) : (s.raise e i o).params = s.params := rfl
@[simp] theorem State.raise_frames (e : ErrorKind) (i o : Byte) : (s.raise e i o).frames = s.frames := rfl
@[simp] theorem State.raise_replies (e : ErrorKind) (i o : Byte) : (s.raise e i o).replies = s.replies := rfl
@[simp] theorem State.raise_busAnswers (e : ErrorKind) (i o : Byte) : (s.raise e i o).busAnswers = s.busAnswers := rfl
@[simp] theorem State.raise_modAnswers (e : ErrorKind) (i o : Byte) : (s.raise e i o).modAnswers = s.modAnswers := rfl
@[simp] theorem State.raise_freeIndex (e : ErrorKind) (i o : Byte) : (s.raise e i o).freeIndex = s.freeIndex := rfl

/-! A write of ERR changes ERR alone (40_host_access.md R187). -/

@[simp] theorem State.clearErr_modSel (w : Word) : (s.clearErr w).modSel = s.modSel := rfl
@[simp] theorem State.clearErr_err (w : Word) : (s.clearErr w).err = s.err &&& ~~~(w.extractLsb' 0 9) := rfl
@[simp] theorem State.clearErr_lastErr (w : Word) : (s.clearErr w).lastErr = s.lastErr := rfl
@[simp] theorem State.clearErr_tickDt (w : Word) : (s.clearErr w).tickDt = s.tickDt := rfl
@[simp] theorem State.clearErr_modTri (w : Word) : (s.clearErr w).modTri = s.modTri := rfl
@[simp] theorem State.clearErr_modSin (w : Word) : (s.clearErr w).modSin = s.modSin := rfl
@[simp] theorem State.clearErr_beginResult (w : Word) : (s.clearErr w).beginResult = s.beginResult := rfl
@[simp] theorem State.clearErr_begun (w : Word) : (s.clearErr w).begun = s.begun := rfl
@[simp] theorem State.clearErr_awaiting (w : Word) : (s.clearErr w).awaiting = s.awaiting := rfl
@[simp] theorem State.clearErr_ready (w : Word) : (s.clearErr w).ready = s.ready := rfl
@[simp] theorem State.clearErr_awaitDev (w : Word) : (s.clearErr w).awaitDev = s.awaitDev := rfl
@[simp] theorem State.clearErr_convResult (w : Word) : (s.clearErr w).convResult = s.convResult := rfl
@[simp] theorem State.clearErr_adcGain (w : Word) : (s.clearErr w).adcGain = s.adcGain := rfl
@[simp] theorem State.clearErr_adcRate (w : Word) : (s.clearErr w).adcRate = s.adcRate := rfl
@[simp] theorem State.clearErr_groupCount (w : Word) : (s.clearErr w).groupCount = s.groupCount := rfl
@[simp] theorem State.clearErr_table (w : Word) : (s.clearErr w).table = s.table := rfl
@[simp] theorem State.clearErr_boards (w : Word) : (s.clearErr w).boards = s.boards := rfl
@[simp] theorem State.clearErr_devices (w : Word) : (s.clearErr w).devices = s.devices := rfl
@[simp] theorem State.clearErr_voices (w : Word) : (s.clearErr w).voices = s.voices := rfl
@[simp] theorem State.clearErr_trace (w : Word) : (s.clearErr w).trace = s.trace := rfl
@[simp] theorem State.clearErr_params (w : Word) : (s.clearErr w).params = s.params := rfl
@[simp] theorem State.clearErr_frames (w : Word) : (s.clearErr w).frames = s.frames := rfl
@[simp] theorem State.clearErr_replies (w : Word) : (s.clearErr w).replies = s.replies := rfl
@[simp] theorem State.clearErr_busAnswers (w : Word) : (s.clearErr w).busAnswers = s.busAnswers := rfl
@[simp] theorem State.clearErr_modAnswers (w : Word) : (s.clearErr w).modAnswers = s.modAnswers := rfl
@[simp] theorem State.clearErr_freeIndex (w : Word) : (s.clearErr w).freeIndex = s.freeIndex := rfl

/-! A reply appends the returned word (log 2). -/

@[simp] theorem State.reply_modSel (w : Word) : (s.reply w).modSel = s.modSel := rfl
@[simp] theorem State.reply_err (w : Word) : (s.reply w).err = s.err := rfl
@[simp] theorem State.reply_lastErr (w : Word) : (s.reply w).lastErr = s.lastErr := rfl
@[simp] theorem State.reply_tickDt (w : Word) : (s.reply w).tickDt = s.tickDt := rfl
@[simp] theorem State.reply_modTri (w : Word) : (s.reply w).modTri = s.modTri := rfl
@[simp] theorem State.reply_modSin (w : Word) : (s.reply w).modSin = s.modSin := rfl
@[simp] theorem State.reply_beginResult (w : Word) : (s.reply w).beginResult = s.beginResult := rfl
@[simp] theorem State.reply_begun (w : Word) : (s.reply w).begun = s.begun := rfl
@[simp] theorem State.reply_awaiting (w : Word) : (s.reply w).awaiting = s.awaiting := rfl
@[simp] theorem State.reply_ready (w : Word) : (s.reply w).ready = s.ready := rfl
@[simp] theorem State.reply_awaitDev (w : Word) : (s.reply w).awaitDev = s.awaitDev := rfl
@[simp] theorem State.reply_convResult (w : Word) : (s.reply w).convResult = s.convResult := rfl
@[simp] theorem State.reply_adcGain (w : Word) : (s.reply w).adcGain = s.adcGain := rfl
@[simp] theorem State.reply_adcRate (w : Word) : (s.reply w).adcRate = s.adcRate := rfl
@[simp] theorem State.reply_groupCount (w : Word) : (s.reply w).groupCount = s.groupCount := rfl
@[simp] theorem State.reply_table (w : Word) : (s.reply w).table = s.table := rfl
@[simp] theorem State.reply_boards (w : Word) : (s.reply w).boards = s.boards := rfl
@[simp] theorem State.reply_devices (w : Word) : (s.reply w).devices = s.devices := rfl
@[simp] theorem State.reply_voices (w : Word) : (s.reply w).voices = s.voices := rfl
@[simp] theorem State.reply_trace (w : Word) : (s.reply w).trace = s.trace := rfl
@[simp] theorem State.reply_params (w : Word) : (s.reply w).params = s.params := rfl
@[simp] theorem State.reply_frames (w : Word) : (s.reply w).frames = s.frames := rfl
@[simp] theorem State.reply_replies (w : Word) : (s.reply w).replies = s.replies ++ [w] := rfl
@[simp] theorem State.reply_busAnswers (w : Word) : (s.reply w).busAnswers = s.busAnswers := rfl
@[simp] theorem State.reply_modAnswers (w : Word) : (s.reply w).modAnswers = s.modAnswers := rfl
@[simp] theorem State.reply_freeIndex (w : Word) : (s.reply w).freeIndex = s.freeIndex := rfl

/-! Placing a host frame changes the pending frames alone (log 1). -/

@[simp] theorem State.pushFrame_modSel (f : Frame) : (s.pushFrame f).modSel = s.modSel := rfl
@[simp] theorem State.pushFrame_err (f : Frame) : (s.pushFrame f).err = s.err := rfl
@[simp] theorem State.pushFrame_lastErr (f : Frame) : (s.pushFrame f).lastErr = s.lastErr := rfl
@[simp] theorem State.pushFrame_tickDt (f : Frame) : (s.pushFrame f).tickDt = s.tickDt := rfl
@[simp] theorem State.pushFrame_modTri (f : Frame) : (s.pushFrame f).modTri = s.modTri := rfl
@[simp] theorem State.pushFrame_modSin (f : Frame) : (s.pushFrame f).modSin = s.modSin := rfl
@[simp] theorem State.pushFrame_beginResult (f : Frame) : (s.pushFrame f).beginResult = s.beginResult := rfl
@[simp] theorem State.pushFrame_begun (f : Frame) : (s.pushFrame f).begun = s.begun := rfl
@[simp] theorem State.pushFrame_awaiting (f : Frame) : (s.pushFrame f).awaiting = s.awaiting := rfl
@[simp] theorem State.pushFrame_ready (f : Frame) : (s.pushFrame f).ready = s.ready := rfl
@[simp] theorem State.pushFrame_awaitDev (f : Frame) : (s.pushFrame f).awaitDev = s.awaitDev := rfl
@[simp] theorem State.pushFrame_convResult (f : Frame) : (s.pushFrame f).convResult = s.convResult := rfl
@[simp] theorem State.pushFrame_adcGain (f : Frame) : (s.pushFrame f).adcGain = s.adcGain := rfl
@[simp] theorem State.pushFrame_adcRate (f : Frame) : (s.pushFrame f).adcRate = s.adcRate := rfl
@[simp] theorem State.pushFrame_groupCount (f : Frame) : (s.pushFrame f).groupCount = s.groupCount := rfl
@[simp] theorem State.pushFrame_table (f : Frame) : (s.pushFrame f).table = s.table := rfl
@[simp] theorem State.pushFrame_boards (f : Frame) : (s.pushFrame f).boards = s.boards := rfl
@[simp] theorem State.pushFrame_devices (f : Frame) : (s.pushFrame f).devices = s.devices := rfl
@[simp] theorem State.pushFrame_voices (f : Frame) : (s.pushFrame f).voices = s.voices := rfl
@[simp] theorem State.pushFrame_trace (f : Frame) : (s.pushFrame f).trace = s.trace := rfl
@[simp] theorem State.pushFrame_params (f : Frame) : (s.pushFrame f).params = s.params := rfl
@[simp] theorem State.pushFrame_frames (f : Frame) : (s.pushFrame f).frames = f :: s.frames := rfl
@[simp] theorem State.pushFrame_replies (f : Frame) : (s.pushFrame f).replies = s.replies := rfl
@[simp] theorem State.pushFrame_busAnswers (f : Frame) : (s.pushFrame f).busAnswers = s.busAnswers := rfl
@[simp] theorem State.pushFrame_modAnswers (f : Frame) : (s.pushFrame f).modAnswers = s.modAnswers := rfl
@[simp] theorem State.pushFrame_freeIndex (f : Frame) : (s.pushFrame f).freeIndex = s.freeIndex := rfl

/-! A write of a voice changes the voices alone. -/

@[simp] theorem State.setVoice_modSel (v : Nat) (x : Voice) : (s.setVoice v x).modSel = s.modSel := rfl
@[simp] theorem State.setVoice_err (v : Nat) (x : Voice) : (s.setVoice v x).err = s.err := rfl
@[simp] theorem State.setVoice_lastErr (v : Nat) (x : Voice) : (s.setVoice v x).lastErr = s.lastErr := rfl
@[simp] theorem State.setVoice_tickDt (v : Nat) (x : Voice) : (s.setVoice v x).tickDt = s.tickDt := rfl
@[simp] theorem State.setVoice_modTri (v : Nat) (x : Voice) : (s.setVoice v x).modTri = s.modTri := rfl
@[simp] theorem State.setVoice_modSin (v : Nat) (x : Voice) : (s.setVoice v x).modSin = s.modSin := rfl
@[simp] theorem State.setVoice_beginResult (v : Nat) (x : Voice) : (s.setVoice v x).beginResult = s.beginResult := rfl
@[simp] theorem State.setVoice_begun (v : Nat) (x : Voice) : (s.setVoice v x).begun = s.begun := rfl
@[simp] theorem State.setVoice_awaiting (v : Nat) (x : Voice) : (s.setVoice v x).awaiting = s.awaiting := rfl
@[simp] theorem State.setVoice_ready (v : Nat) (x : Voice) : (s.setVoice v x).ready = s.ready := rfl
@[simp] theorem State.setVoice_awaitDev (v : Nat) (x : Voice) : (s.setVoice v x).awaitDev = s.awaitDev := rfl
@[simp] theorem State.setVoice_convResult (v : Nat) (x : Voice) : (s.setVoice v x).convResult = s.convResult := rfl
@[simp] theorem State.setVoice_adcGain (v : Nat) (x : Voice) : (s.setVoice v x).adcGain = s.adcGain := rfl
@[simp] theorem State.setVoice_adcRate (v : Nat) (x : Voice) : (s.setVoice v x).adcRate = s.adcRate := rfl
@[simp] theorem State.setVoice_groupCount (v : Nat) (x : Voice) : (s.setVoice v x).groupCount = s.groupCount := rfl
@[simp] theorem State.setVoice_table (v : Nat) (x : Voice) : (s.setVoice v x).table = s.table := rfl
@[simp] theorem State.setVoice_boards (v : Nat) (x : Voice) : (s.setVoice v x).boards = s.boards := rfl
@[simp] theorem State.setVoice_devices (v : Nat) (x : Voice) : (s.setVoice v x).devices = s.devices := rfl
@[simp] theorem State.setVoice_voices (v : Nat) (x : Voice) : (s.setVoice v x).voices = s.voices.set v x := rfl
@[simp] theorem State.setVoice_trace (v : Nat) (x : Voice) : (s.setVoice v x).trace = s.trace := rfl
@[simp] theorem State.setVoice_params (v : Nat) (x : Voice) : (s.setVoice v x).params = s.params := rfl
@[simp] theorem State.setVoice_frames (v : Nat) (x : Voice) : (s.setVoice v x).frames = s.frames := rfl
@[simp] theorem State.setVoice_replies (v : Nat) (x : Voice) : (s.setVoice v x).replies = s.replies := rfl
@[simp] theorem State.setVoice_busAnswers (v : Nat) (x : Voice) : (s.setVoice v x).busAnswers = s.busAnswers := rfl
@[simp] theorem State.setVoice_modAnswers (v : Nat) (x : Voice) : (s.setVoice v x).modAnswers = s.modAnswers := rfl
@[simp] theorem State.setVoice_freeIndex (v : Nat) (x : Voice) : (s.setVoice v x).freeIndex = s.freeIndex := rfl

/-! A write of a board changes the boards alone. -/

@[simp] theorem State.setBoard_modSel (b : Nat) (x : Board) : (s.setBoard b x).modSel = s.modSel := rfl
@[simp] theorem State.setBoard_err (b : Nat) (x : Board) : (s.setBoard b x).err = s.err := rfl
@[simp] theorem State.setBoard_lastErr (b : Nat) (x : Board) : (s.setBoard b x).lastErr = s.lastErr := rfl
@[simp] theorem State.setBoard_tickDt (b : Nat) (x : Board) : (s.setBoard b x).tickDt = s.tickDt := rfl
@[simp] theorem State.setBoard_modTri (b : Nat) (x : Board) : (s.setBoard b x).modTri = s.modTri := rfl
@[simp] theorem State.setBoard_modSin (b : Nat) (x : Board) : (s.setBoard b x).modSin = s.modSin := rfl
@[simp] theorem State.setBoard_beginResult (b : Nat) (x : Board) : (s.setBoard b x).beginResult = s.beginResult := rfl
@[simp] theorem State.setBoard_begun (b : Nat) (x : Board) : (s.setBoard b x).begun = s.begun := rfl
@[simp] theorem State.setBoard_awaiting (b : Nat) (x : Board) : (s.setBoard b x).awaiting = s.awaiting := rfl
@[simp] theorem State.setBoard_ready (b : Nat) (x : Board) : (s.setBoard b x).ready = s.ready := rfl
@[simp] theorem State.setBoard_awaitDev (b : Nat) (x : Board) : (s.setBoard b x).awaitDev = s.awaitDev := rfl
@[simp] theorem State.setBoard_convResult (b : Nat) (x : Board) : (s.setBoard b x).convResult = s.convResult := rfl
@[simp] theorem State.setBoard_adcGain (b : Nat) (x : Board) : (s.setBoard b x).adcGain = s.adcGain := rfl
@[simp] theorem State.setBoard_adcRate (b : Nat) (x : Board) : (s.setBoard b x).adcRate = s.adcRate := rfl
@[simp] theorem State.setBoard_groupCount (b : Nat) (x : Board) : (s.setBoard b x).groupCount = s.groupCount := rfl
@[simp] theorem State.setBoard_table (b : Nat) (x : Board) : (s.setBoard b x).table = s.table := rfl
@[simp] theorem State.setBoard_boards (b : Nat) (x : Board) : (s.setBoard b x).boards = s.boards.set b x := rfl
@[simp] theorem State.setBoard_devices (b : Nat) (x : Board) : (s.setBoard b x).devices = s.devices := rfl
@[simp] theorem State.setBoard_voices (b : Nat) (x : Board) : (s.setBoard b x).voices = s.voices := rfl
@[simp] theorem State.setBoard_trace (b : Nat) (x : Board) : (s.setBoard b x).trace = s.trace := rfl
@[simp] theorem State.setBoard_params (b : Nat) (x : Board) : (s.setBoard b x).params = s.params := rfl
@[simp] theorem State.setBoard_frames (b : Nat) (x : Board) : (s.setBoard b x).frames = s.frames := rfl
@[simp] theorem State.setBoard_replies (b : Nat) (x : Board) : (s.setBoard b x).replies = s.replies := rfl
@[simp] theorem State.setBoard_busAnswers (b : Nat) (x : Board) : (s.setBoard b x).busAnswers = s.busAnswers := rfl
@[simp] theorem State.setBoard_modAnswers (b : Nat) (x : Board) : (s.setBoard b x).modAnswers = s.modAnswers := rfl
@[simp] theorem State.setBoard_freeIndex (b : Nat) (x : Board) : (s.setBoard b x).freeIndex = s.freeIndex := rfl

/-! Counting a voice changes the group counters alone (41_voice.md R202). -/

@[simp] theorem State.incGroup_modSel (g : BitVec 4) : (s.incGroup g).modSel = s.modSel := rfl
@[simp] theorem State.incGroup_err (g : BitVec 4) : (s.incGroup g).err = s.err := rfl
@[simp] theorem State.incGroup_lastErr (g : BitVec 4) : (s.incGroup g).lastErr = s.lastErr := rfl
@[simp] theorem State.incGroup_tickDt (g : BitVec 4) : (s.incGroup g).tickDt = s.tickDt := rfl
@[simp] theorem State.incGroup_modTri (g : BitVec 4) : (s.incGroup g).modTri = s.modTri := rfl
@[simp] theorem State.incGroup_modSin (g : BitVec 4) : (s.incGroup g).modSin = s.modSin := rfl
@[simp] theorem State.incGroup_beginResult (g : BitVec 4) : (s.incGroup g).beginResult = s.beginResult := rfl
@[simp] theorem State.incGroup_begun (g : BitVec 4) : (s.incGroup g).begun = s.begun := rfl
@[simp] theorem State.incGroup_awaiting (g : BitVec 4) : (s.incGroup g).awaiting = s.awaiting := rfl
@[simp] theorem State.incGroup_ready (g : BitVec 4) : (s.incGroup g).ready = s.ready := rfl
@[simp] theorem State.incGroup_awaitDev (g : BitVec 4) : (s.incGroup g).awaitDev = s.awaitDev := rfl
@[simp] theorem State.incGroup_convResult (g : BitVec 4) : (s.incGroup g).convResult = s.convResult := rfl
@[simp] theorem State.incGroup_adcGain (g : BitVec 4) : (s.incGroup g).adcGain = s.adcGain := rfl
@[simp] theorem State.incGroup_adcRate (g : BitVec 4) : (s.incGroup g).adcRate = s.adcRate := rfl
@[simp] theorem State.incGroup_groupCount (g : BitVec 4) : (s.incGroup g).groupCount = s.groupCount.modify g.toNat (· + 1#8) := rfl
@[simp] theorem State.incGroup_table (g : BitVec 4) : (s.incGroup g).table = s.table := rfl
@[simp] theorem State.incGroup_boards (g : BitVec 4) : (s.incGroup g).boards = s.boards := rfl
@[simp] theorem State.incGroup_devices (g : BitVec 4) : (s.incGroup g).devices = s.devices := rfl
@[simp] theorem State.incGroup_voices (g : BitVec 4) : (s.incGroup g).voices = s.voices := rfl
@[simp] theorem State.incGroup_trace (g : BitVec 4) : (s.incGroup g).trace = s.trace := rfl
@[simp] theorem State.incGroup_params (g : BitVec 4) : (s.incGroup g).params = s.params := rfl
@[simp] theorem State.incGroup_frames (g : BitVec 4) : (s.incGroup g).frames = s.frames := rfl
@[simp] theorem State.incGroup_replies (g : BitVec 4) : (s.incGroup g).replies = s.replies := rfl
@[simp] theorem State.incGroup_busAnswers (g : BitVec 4) : (s.incGroup g).busAnswers = s.busAnswers := rfl
@[simp] theorem State.incGroup_modAnswers (g : BitVec 4) : (s.incGroup g).modAnswers = s.modAnswers := rfl
@[simp] theorem State.incGroup_freeIndex (g : BitVec 4) : (s.incGroup g).freeIndex = s.freeIndex := rfl

/-! Uncounting a voice changes the group counters alone (41_voice.md R206). -/

@[simp] theorem State.decGroup_modSel (g : BitVec 4) : (s.decGroup g).modSel = s.modSel := rfl
@[simp] theorem State.decGroup_err (g : BitVec 4) : (s.decGroup g).err = s.err := rfl
@[simp] theorem State.decGroup_lastErr (g : BitVec 4) : (s.decGroup g).lastErr = s.lastErr := rfl
@[simp] theorem State.decGroup_tickDt (g : BitVec 4) : (s.decGroup g).tickDt = s.tickDt := rfl
@[simp] theorem State.decGroup_modTri (g : BitVec 4) : (s.decGroup g).modTri = s.modTri := rfl
@[simp] theorem State.decGroup_modSin (g : BitVec 4) : (s.decGroup g).modSin = s.modSin := rfl
@[simp] theorem State.decGroup_beginResult (g : BitVec 4) : (s.decGroup g).beginResult = s.beginResult := rfl
@[simp] theorem State.decGroup_begun (g : BitVec 4) : (s.decGroup g).begun = s.begun := rfl
@[simp] theorem State.decGroup_awaiting (g : BitVec 4) : (s.decGroup g).awaiting = s.awaiting := rfl
@[simp] theorem State.decGroup_ready (g : BitVec 4) : (s.decGroup g).ready = s.ready := rfl
@[simp] theorem State.decGroup_awaitDev (g : BitVec 4) : (s.decGroup g).awaitDev = s.awaitDev := rfl
@[simp] theorem State.decGroup_convResult (g : BitVec 4) : (s.decGroup g).convResult = s.convResult := rfl
@[simp] theorem State.decGroup_adcGain (g : BitVec 4) : (s.decGroup g).adcGain = s.adcGain := rfl
@[simp] theorem State.decGroup_adcRate (g : BitVec 4) : (s.decGroup g).adcRate = s.adcRate := rfl
@[simp] theorem State.decGroup_groupCount (g : BitVec 4) : (s.decGroup g).groupCount = s.groupCount.modify g.toNat (· - 1#8) := rfl
@[simp] theorem State.decGroup_table (g : BitVec 4) : (s.decGroup g).table = s.table := rfl
@[simp] theorem State.decGroup_boards (g : BitVec 4) : (s.decGroup g).boards = s.boards := rfl
@[simp] theorem State.decGroup_devices (g : BitVec 4) : (s.decGroup g).devices = s.devices := rfl
@[simp] theorem State.decGroup_voices (g : BitVec 4) : (s.decGroup g).voices = s.voices := rfl
@[simp] theorem State.decGroup_trace (g : BitVec 4) : (s.decGroup g).trace = s.trace := rfl
@[simp] theorem State.decGroup_params (g : BitVec 4) : (s.decGroup g).params = s.params := rfl
@[simp] theorem State.decGroup_frames (g : BitVec 4) : (s.decGroup g).frames = s.frames := rfl
@[simp] theorem State.decGroup_replies (g : BitVec 4) : (s.decGroup g).replies = s.replies := rfl
@[simp] theorem State.decGroup_busAnswers (g : BitVec 4) : (s.decGroup g).busAnswers = s.busAnswers := rfl
@[simp] theorem State.decGroup_modAnswers (g : BitVec 4) : (s.decGroup g).modAnswers = s.modAnswers := rfl
@[simp] theorem State.decGroup_freeIndex (g : BitVec 4) : (s.decGroup g).freeIndex = s.freeIndex := rfl

/-! The tables read through their accessors. -/

@[simp] theorem State.emit_voice (e : Event) (v : Nat) : (s.emit e).voice v = s.voice v := rfl
@[simp] theorem State.raise_voice (e : ErrorKind) (i o : Byte) (v : Nat) : (s.raise e i o).voice v = s.voice v := rfl
@[simp] theorem State.setBoard_voice (b : Nat) (x : Board) (v : Nat) : (s.setBoard b x).voice v = s.voice v := rfl
@[simp] theorem State.incGroup_voice (g : BitVec 4) (v : Nat) : (s.incGroup g).voice v = s.voice v := rfl
@[simp] theorem State.decGroup_voice (g : BitVec 4) (v : Nat) : (s.decGroup g).voice v = s.voice v := rfl
@[simp] theorem State.emit_board (e : Event) (b : Nat) : (s.emit e).board b = s.board b := rfl
@[simp] theorem State.raise_board (e : ErrorKind) (i o : Byte) (b : Nat) : (s.raise e i o).board b = s.board b := rfl
@[simp] theorem State.setVoice_board (v : Nat) (x : Voice) (b : Nat) : (s.setVoice v x).board b = s.board b := rfl
@[simp] theorem State.incGroup_board (g : BitVec 4) (b : Nat) : (s.incGroup g).board b = s.board b := rfl
@[simp] theorem State.decGroup_board (g : BitVec 4) (b : Nat) : (s.decGroup g).board b = s.board b := rfl

/-- A written voice reads back. -/
@[simp] theorem State.setVoice_voice_self (v : Nat) (x : Voice) (h : v < s.voices.length) :
    (s.setVoice v x).voice v = x := by
  simp [State.voice, State.setVoice, List.getD_eq_getElem?_getD, h]

/-- A written voice leaves every other voice as it was. -/
theorem State.setVoice_voice_ne (v w : Nat) (x : Voice) (h : v ≠ w) :
    (s.setVoice v x).voice w = s.voice w := by
  simp [State.voice, State.setVoice, List.getD_eq_getElem?_getD, List.getElem?_set_ne h]

/-- A written board reads back. -/
@[simp] theorem State.setBoard_board_self (b : Nat) (x : Board) (h : b < s.boards.length) :
    (s.setBoard b x).board b = x := by
  simp [State.board, State.setBoard, List.getD_eq_getElem?_getD, h]

/-- A written board leaves every other board as it was. -/
theorem State.setBoard_board_ne (b c : Nat) (x : Board) (h : b ≠ c) :
    (s.setBoard b x).board c = s.board c := by
  simp [State.board, State.setBoard, List.getD_eq_getElem?_getD, List.getElem?_set_ne h]

/-- The last of two writes of one voice stands. -/
@[simp] theorem State.setVoice_setVoice (v : Nat) (x y : Voice) :
    (s.setVoice v x).setVoice v y = s.setVoice v y := by
  simp [State.setVoice]

/-- The last of two writes of one board stands. -/
@[simp] theorem State.setBoard_setBoard (b : Nat) (x y : Board) :
    (s.setBoard b x).setBoard b y = s.setBoard b y := by
  simp [State.setBoard]

/-- Writing a voice back changes nothing. -/
@[simp] theorem State.setVoice_voice (v : Nat) : s.setVoice v (s.voice v) = s := by
  by_cases h : v < s.voices.length
  · simp [State.setVoice, State.voice, List.getD_eq_getElem?_getD, h]
  · simp [State.setVoice, List.set_eq_of_length_le (Nat.le_of_not_lt h)]

/-! Sizes are kept. -/

@[simp] theorem State.setVoice_numVoices (v : Nat) (x : Voice) : (s.setVoice v x).numVoices = s.numVoices := by
  simp [State.numVoices]
@[simp] theorem State.setBoard_numBoards (b : Nat) (x : Board) : (s.setBoard b x).numBoards = s.numBoards := by
  simp [State.numBoards]
@[simp] theorem State.incGroup_numGroups (g : BitVec 4) : (s.incGroup g).numGroups = s.numGroups := by
  simp [State.numGroups]
@[simp] theorem State.decGroup_numGroups (g : BitVec 4) : (s.decGroup g).numGroups = s.numGroups := by
  simp [State.numGroups]

end Sys2Proof.Machine
end

