-- ==== Sys2Proof/Laws/Ops.lean ====
section
/-! SUPPORT. What each shared operation can do, said once. A bus operation changes only the error
registers, the trace (which it extends) and the oracle's inputs: `BusEffect` of Safety.lean. -/

namespace Sys2Proof.Machine

open Sys2Proof.Config

/-- Nothing done is a bus effect. -/
theorem BusEffect.refl (s : State) : BusEffect s s := ⟨rfl, List.prefix_refl _⟩

/-- Bus effects follow one another. -/
theorem BusEffect.trans {s t u : State} (h : BusEffect s t) (k : BusEffect t u) : BusEffect s u := by
  refine ⟨?_, h.trace.trans k.trace⟩
  have hs := h.rest
  have ht := k.rest
  rw [hs] at ht
  simpa using ht

/-- Emitting an event is a bus effect. -/
theorem BusEffect.emit (s : State) (e : Event) : BusEffect s (s.emit e) := ⟨rfl, List.prefix_append _ _⟩

/-- Recording an error is a bus effect (60_exceptions.md R372). -/
theorem BusEffect.raise (s : State) (e : ErrorKind) (i o : Byte) : BusEffect s (s.raise e i o) :=
  ⟨rfl, List.prefix_append _ _⟩

/-- A bus effect is one beside any write of the boards. -/
theorem BusEffect.withBoards {s t : State} (h : BusEffect s t) (bs : List Board) :
    BusEffect { s with boards := bs } { t with boards := bs } :=
  ⟨congrArg (fun u => { u with boards := bs }) h.rest, h.trace⟩

section fields
variable {s t : State} (h : BusEffect s t)
include h

theorem BusEffect.modSel : t.modSel = s.modSel := by rw [h.rest]
theorem BusEffect.tickDt : t.tickDt = s.tickDt := by rw [h.rest]
theorem BusEffect.modTri : t.modTri = s.modTri := by rw [h.rest]
theorem BusEffect.modSin : t.modSin = s.modSin := by rw [h.rest]
theorem BusEffect.beginResult : t.beginResult = s.beginResult := by rw [h.rest]
theorem BusEffect.begun : t.begun = s.begun := by rw [h.rest]
theorem BusEffect.awaiting : t.awaiting = s.awaiting := by rw [h.rest]
theorem BusEffect.ready : t.ready = s.ready := by rw [h.rest]
theorem BusEffect.awaitDev : t.awaitDev = s.awaitDev := by rw [h.rest]
theorem BusEffect.convResult : t.convResult = s.convResult := by rw [h.rest]
theorem BusEffect.adcGain : t.adcGain = s.adcGain := by rw [h.rest]
theorem BusEffect.adcRate : t.adcRate = s.adcRate := by rw [h.rest]
theorem BusEffect.groupCount : t.groupCount = s.groupCount := by rw [h.rest]
theorem BusEffect.table : t.table = s.table := by rw [h.rest]
theorem BusEffect.boards : t.boards = s.boards := by rw [h.rest]
theorem BusEffect.devices : t.devices = s.devices := by rw [h.rest]
theorem BusEffect.voices : t.voices = s.voices := by rw [h.rest]
theorem BusEffect.params : t.params = s.params := by rw [h.rest]
theorem BusEffect.frames : t.frames = s.frames := by rw [h.rest]
theorem BusEffect.replies : t.replies = s.replies := by rw [h.rest]
theorem BusEffect.modAnswers : t.modAnswers = s.modAnswers := by rw [h.rest]
theorem BusEffect.board (b : Nat) : t.board b = s.board b := by simp [State.board, h.boards]
theorem BusEffect.voice (v : Nat) : t.voice v = s.voice v := by simp [State.voice, h.voices]
theorem BusEffect.device (d : Nat) : t.device d = s.device d := by simp [State.device, h.devices]

end fields

/-! ### The oracles -/

/-- The bus oracle's scripted answer is taken from the front. -/
theorem askBus_cons {s : State} {a : BusAnswer} {rest : List BusAnswer} (h : s.busAnswers = a :: rest) :
    s.askBus = (a, { s with busAnswers := rest }) := by
  simp [State.askBus, h]

/-- With no scripted answer the bus oracle answers the next free value. -/
theorem askBus_nil {s : State} (h : s.busAnswers = []) :
    s.askBus = (freeBusAnswer s.freeIndex, { s with freeIndex := s.freeIndex + 1 }) := by
  simp [State.askBus, h]

/-- Asking the bus oracle takes an answer and changes nothing else. -/
theorem askBus_effect (s : State) : BusEffect s s.askBus.2 := by
  unfold State.askBus
  split <;> exact ⟨rfl, List.prefix_refl _⟩

/-- The modulation oracle's scripted answer is taken from the front. -/
theorem askMod_cons {s : State} {a : ModAnswer} {rest : List ModAnswer} (h : s.modAnswers = a :: rest) :
    s.askMod = (a, { s with modAnswers := rest }) := by
  simp [State.askMod, h]

/-- Asking the modulation oracle takes an answer and changes nothing else. -/
theorem askMod_rest (s : State) :
    s.askMod.2 = { s with modAnswers := s.askMod.2.modAnswers, freeIndex := s.askMod.2.freeIndex } := by
  unfold State.askMod
  split <;> rfl

/-! ### Transactions -/

/-- A transaction leaves its event, and for a status other than 0 the record of BusFailure
(44_bus.md R340, R356). -/
theorem recordTxn_effect (s : State) (k : TxnKind) (a : BusAddr) (out : List Byte) (n : Nat)
    (st : BusStatus) (bs : List Byte) (i op : Byte) : BusEffect s (s.recordTxn k a out n st bs i op) := by
  unfold State.recordTxn
  split
  · exact .emit s _
  · exact (BusEffect.emit s _).trans (.raise _ _ _ _)

/-- BusWrite is a bus effect. -/
theorem busWrite_effect (s : State) (a : BusAddr) (bytes : List Byte) (i op : Byte) :
    BusEffect s (s.busWrite a bytes i op).2 :=
  (askBus_effect s).trans (recordTxn_effect ..)

/-- BusProbe is a bus effect. -/
theorem busProbe_effect (s : State) (a : BusAddr) (i op : Byte) : BusEffect s (s.busProbe a i op).2 :=
  (askBus_effect s).trans (recordTxn_effect ..)

/-- BusRead is a bus effect. -/
theorem busRead2_effect (s : State) (a : BusAddr) (i op : Byte) : BusEffect s (s.busRead2 a i op).2 :=
  (askBus_effect s).trans (recordTxn_effect ..)

/-- SegBegin is a bus effect. -/
theorem segBegin_effect (s : State) (bd : Board) (i op : Byte) : BusEffect s (s.segBegin bd i op).2 := by
  unfold State.segBegin
  split
  · exact .refl s
  · exact busWrite_effect ..

/-- SegEnd is a bus effect. -/
theorem segEnd_effect (s : State) (bd : Board) (i op : Byte) : BusEffect s (s.segEnd bd i op) := by
  unfold State.segEnd
  split
  · exact .refl s
  · exact busWrite_effect ..

/-- A bracketed bus operation is a bus effect where the operation is one. -/
theorem bracketed_effect (s : State) (bd : Board) (i op : Byte) (x : State → BusStatus × State)
    (hx : ∀ u, BusEffect u (x u).2) : BusEffect s (s.bracketed bd i op x).2 := by
  unfold State.bracketed
  dsimp only
  split
  · exact ((segBegin_effect s bd i op).trans (hx _)).trans (segEnd_effect ..)
  · exact (segBegin_effect s bd i op).trans (segEnd_effect ..)

/-- On a root board the bracket issues the operation alone (44_bus.md R344, R345). -/
theorem bracketed_root {s : State} {bd : Board} (h : bd.cluster = none) (i op : Byte)
    (x : State → BusStatus × State) : s.bracketed bd i op x = x s := by
  simp [State.bracketed, State.segBegin, State.segEnd, h]

/-- A write to a board is a bus effect. -/
theorem boardWrite_effect (s : State) (b : Nat) (bytes : List Byte) (op : Byte) :
    BusEffect s (s.boardWrite b bytes op).2 :=
  bracketed_effect _ _ _ _ _ (fun u => busWrite_effect u ..)

/-- A probe of a board is a bus effect. -/
theorem boardProbe_effect (s : State) (b : Nat) (op : Byte) : BusEffect s (s.boardProbe b op).2 :=
  bracketed_effect _ _ _ _ _ (fun u => busProbe_effect u ..)

/-- AdcRead is a bus effect (44_bus.md R351). -/
theorem adcRead_effect (s : State) (b : Nat) (ptr op : Byte) : BusEffect s (s.adcRead b ptr op).2 := by
  unfold State.adcRead
  dsimp only
  split
  · split
    · exact (((segBegin_effect ..).trans (busWrite_effect ..)).trans (busRead2_effect ..)).trans (segEnd_effect ..)
    · exact ((segBegin_effect ..).trans (busWrite_effect ..)).trans (segEnd_effect ..)
  · exact (segBegin_effect ..).trans (segEnd_effect ..)

/-- The writes of an init sequence are a bus effect (43_aal.md R285). -/
theorem initWrites_effect (b : Nat) (op : Byte) (ts : List (List Byte)) (s : State) :
    BusEffect s (State.initWrites b op ts s) := by
  induction ts generalizing s with
  | nil => exact .refl s
  | cons t rest ih =>
    unfold State.initWrites
    dsimp only
    split
    · exact (boardWrite_effect ..).trans (ih _)
    · exact boardWrite_effect ..

/-- InitBoard is a bus effect: it never changes VALID, BUF or DIRTY (43_aal.md R285). -/
theorem initBoard_effect (s : State) (b : Nat) (op : Byte) : BusEffect s (s.initBoard b op) :=
  initWrites_effect ..

/-! ### Operations on the tables -/

/-- Translate answers a device's board and channel and changes nothing, or records InvalidLogicalDevice
(20_memory.md R108). -/
theorem translate_cases (s : State) (d : Byte) (k : Kind) (op : Byte) :
    (d.toNat < s.numDevices ∧ (s.device d.toNat).kind = k ∧
      s.translate d k op = (some ((s.device d.toNat).board.toNat, (s.device d.toNat).channel.toNat), s)) ∨
    (¬(d.toNat < s.numDevices ∧ (s.device d.toNat).kind = k) ∧
      s.translate d k op = (none, s.raise .invalidLogicalDevice d op)) := by
  by_cases h : d.toNat < s.numDevices ∧ (s.device d.toNat).kind = k
  · exact .inl ⟨h.1, h.2, by simp [State.translate, h]⟩
  · exact .inr ⟨h, by simp [State.translate, h]⟩

/-- SetOut buffers the value on a valid board, changes nothing on an invalid one, and records
InvalidLogicalDevice for a bad handle (43_aal.md R289). -/
theorem setOut_cases (s : State) (d : Byte) (k : Kind) (value : Half) (op : Byte) :
    (d.toNat < s.numDevices ∧ (s.device d.toNat).kind = k ∧
      (s.board (s.device d.toNat).board.toNat).valid = true ∧
      s.setOut d k value op = s.setBoard (s.device d.toNat).board.toNat
        ((s.board (s.device d.toNat).board.toNat).write (s.device d.toNat).channel.toNat value)) ∨
    (d.toNat < s.numDevices ∧ (s.device d.toNat).kind = k ∧
      (s.board (s.device d.toNat).board.toNat).valid = false ∧ s.setOut d k value op = s) ∨
    (¬(d.toNat < s.numDevices ∧ (s.device d.toNat).kind = k) ∧
      s.setOut d k value op = s.raise .invalidLogicalDevice d op) := by
  rcases translate_cases s d k op with ⟨h1, h2, h⟩ | ⟨h1, h⟩
  · cases hv : (s.board (s.device d.toNat).board.toNat).valid
    · exact .inr (.inl ⟨h1, h2, rfl, by simp [State.setOut, h, hv]⟩)
    · exact .inl ⟨h1, h2, rfl, by simp [State.setOut, h, hv]⟩
  · exact .inr (.inr ⟨h1, by simp [State.setOut, h]⟩)

/-- ValidateBoard sets the board's VALID from the probe's status; the rest is a bus effect
(43_aal.md R297). -/
theorem validateBoard_boards (s : State) (b : Nat) (op : Byte) :
    (s.validateBoard b op).boards =
      s.boards.set b { s.board b with valid := decide ((s.boardProbe b op).1 = .ok) } := by
  have h := boardProbe_effect s b op
  unfold State.validateBoard
  dsimp only
  split <;> simp [h.boards, h.board b]

/-- ValidateBoard keeps every field but the boards and what a bus effect changes. -/
theorem validateBoard_effect (s : State) (b : Nat) (op : Byte) :
    BusEffect { s with boards := (s.validateBoard b op).boards } (s.validateBoard b op) := by
  have h := boardProbe_effect s b op
  unfold State.validateBoard
  dsimp only
  split
  · exact h.withBoards _
  · exact (h.withBoards _).trans (.raise _ _ _ _)

/-- One board of the flush scan: a valid dirty board's mask is cleared whatever the bus answered, every
other board is left (43_aal.md R292, R294). -/
theorem flushBoard_boards (s : State) (b : Nat) (op : Byte) :
    (s.flushBoard op b).boards =
      if (s.board b).valid && (s.board b).dirty != 0#16 then
        s.boards.set b { s.board b with dirty := 0#16 }
      else s.boards := by
  have h := boardWrite_effect s b (flushFrame s.params s.freeIndex (s.board b)) op
  unfold State.flushBoard
  dsimp only
  split <;> simp_all [h.boards, h.board b]

/-- One board of the flush scan keeps every field but the boards and what a bus effect changes. -/
theorem flushBoard_effect (s : State) (b : Nat) (op : Byte) :
    BusEffect { s with boards := (s.flushBoard op b).boards } (s.flushBoard op b) := by
  have h := boardWrite_effect s b (flushFrame s.params s.freeIndex (s.board b)) op
  unfold State.flushBoard
  dsimp only
  split
  · exact h.withBoards _
  · exact .refl s

end Sys2Proof.Machine
end

