-- ==== Sys2Proof/Laws/PerInstr.lean ====
section
/-! SUPPORT. The families of laws stated per instruction: one lemma for each constructor of Instr. -/

namespace Sys2Proof.Laws.MatchesTable

open Sys2Proof

/-- The mask and the match of an instruction's row of spec/opcode_table.json. -/
def row : Instr → Nat × Nat
  | .rd _ => (0xFFFF0000FFFFFFFF, 0x0000000000000000)
  | .wr _ _ => (0xFFFF000000000000, 0x8000000000000000)
  | .nop => (0xFFFFFFFF, 0x00000000)
  | .newvoice _ _ _ => (0xFF00F000, 0x01000000)
  | .start _ => (0xFF00FFFF, 0x02000000)
  | .endNote _ => (0xFF00FFFF, 0x03000000)
  | .process _ => (0xFF00FFFF, 0x04000000)
  | .update _ => (0xFF00FFFF, 0x05000000)
  | .tick => (0xFFFFFFFF, 0x06000000)
  | .beginAal => (0xFFFFFFFF, 0x10000000)
  | .setao _ _ => (0xFF000000, 0x11000000)
  | .setdo _ _ => (0xFF00FFFE, 0x12000000)
  | .flush => (0xFFFFFFFF, 0x13000000)
  | .startconv _ => (0xFF00FFFF, 0x14000000)
  | .poll => (0xFFFFFFFF, 0x15000000)
  | .validate _ => (0xFF00FFFF, 0x16000000)
  | .resetboard _ => (0xFF00FFFF, 0x17000000)

/-- An encoded word lies in its instruction's row of the table. -/
def fits : Code → Nat × Nat → Prop
  | .frame f, (mask, fixed) => f &&& BitVec.ofNat 64 mask = BitVec.ofNat 64 fixed
  | .command w, (mask, fixed) => w &&& BitVec.ofNat 32 mask = BitVec.ofNat 32 fixed

/-- The encoding of an instruction has the bits that its row of spec/opcode_table.json fixes. -/
def Statement (i : Instr) : Prop := fits (encode i) (row i)

theorem rd (addr : HostAddr) : Statement (.rd addr) := by
  refine BitVec.eq_of_getLsbD_eq fun i hi => ?_
  simp only [BitVec.getLsbD_and, BitVec.getLsbD_append]
  interval_cases i <;> simp

theorem wr (addr : HostAddr) (data : Word) : Statement (.wr addr data) := by
  refine BitVec.eq_of_getLsbD_eq fun i hi => ?_
  simp only [BitVec.getLsbD_and, BitVec.getLsbD_append]
  interval_cases i <;> simp

theorem nop : Statement .nop := rfl

theorem newvoice (v : Byte) (group : BitVec 4) (channel : Byte) : Statement (.newvoice v group channel) := by
  refine BitVec.eq_of_getLsbD_eq fun i hi => ?_
  simp only [commandWord, BitVec.getLsbD_and, BitVec.getLsbD_append]
  interval_cases i <;> simp

theorem start (v : Byte) : Statement (.start v) := by
  refine BitVec.eq_of_getLsbD_eq fun i hi => ?_
  simp only [commandWord, BitVec.getLsbD_and, BitVec.getLsbD_append]
  interval_cases i <;> simp

theorem endNote (v : Byte) : Statement (.endNote v) := by
  refine BitVec.eq_of_getLsbD_eq fun i hi => ?_
  simp only [commandWord, BitVec.getLsbD_and, BitVec.getLsbD_append]
  interval_cases i <;> simp

theorem process (v : Byte) : Statement (.process v) := by
  refine BitVec.eq_of_getLsbD_eq fun i hi => ?_
  simp only [commandWord, BitVec.getLsbD_and, BitVec.getLsbD_append]
  interval_cases i <;> simp

theorem update (v : Byte) : Statement (.update v) := by
  refine BitVec.eq_of_getLsbD_eq fun i hi => ?_
  simp only [commandWord, BitVec.getLsbD_and, BitVec.getLsbD_append]
  interval_cases i <;> simp

theorem tick : Statement .tick := rfl

theorem beginAal : Statement .beginAal := rfl

theorem setao (d : Byte) (value : Half) : Statement (.setao d value) := by
  refine BitVec.eq_of_getLsbD_eq fun i hi => ?_
  simp only [commandWord, BitVec.getLsbD_and, BitVec.getLsbD_append]
  interval_cases i <;> simp

theorem setdo (d : Byte) (value : BitVec 1) : Statement (.setdo d value) := by
  refine BitVec.eq_of_getLsbD_eq fun i hi => ?_
  simp only [commandWord, BitVec.getLsbD_and, BitVec.getLsbD_append]
  interval_cases i <;> simp

theorem flush : Statement .flush := rfl

theorem startconv (d : Byte) : Statement (.startconv d) := by
  refine BitVec.eq_of_getLsbD_eq fun i hi => ?_
  simp only [commandWord, BitVec.getLsbD_and, BitVec.getLsbD_append]
  interval_cases i <;> simp

theorem poll : Statement .poll := rfl

theorem validate (b : Byte) : Statement (.validate b) := by
  refine BitVec.eq_of_getLsbD_eq fun i hi => ?_
  simp only [commandWord, BitVec.getLsbD_and, BitVec.getLsbD_append]
  interval_cases i <;> simp

theorem resetboard (b : Byte) : Statement (.resetboard b) := by
  refine BitVec.eq_of_getLsbD_eq fun i hi => ?_
  simp only [commandWord, BitVec.getLsbD_and, BitVec.getLsbD_append]
  interval_cases i <;> simp

end Sys2Proof.Laws.MatchesTable
end

