-- ==== Sys2Proof/Laws/Runs.lean ====
section
/-! SUPPORT. What a board's bus operation does for every answer of the bus, said once: with enough answers
scripted it is its `BusRun` of Safety.lean. -/

namespace Sys2Proof.Machine

open Sys2Proof.Config

/-! ### Transactions one after another -/

/-- BusFailure is the record of a transaction's status (44_bus.md R356). -/
theorem raise_busTransaction (s : State) {st : BusStatus} (h : st ≠ .ok) (i op : Byte) :
    s.raise (.busTransaction st) i op = s.recorded 3 (statusCode st) i op .aal := by
  cases st
  · exact absurd rfl h
  all_goals rfl

/-- One transaction's event and record. -/
theorem recordTxn_eq (s : State) (k : TxnKind) (a : BusAddr) (out : List Byte) (n : Nat) (st : BusStatus)
    (bs : List Byte) (i op : Byte) :
    s.recordTxn k a out n st bs i op = s.afterTxns i op [.txn k a out n st bs] := by
  unfold State.recordTxn State.afterTxns
  dsimp only
  split
  · simp only [State.emit, State.afterTxns, *]
  · rename_i h
    simp only [State.emit, State.afterTxns, raise_busTransaction _ h]

/-- Transactions in two parts. -/
theorem afterTxns_append (i op : Byte) (l m : List Event) (s : State) :
    s.afterTxns i op (l ++ m) = (s.afterTxns i op l).afterTxns i op m := by
  induction l generalizing s with
  | nil => rfl
  | cons e l ih => cases e <;> exact ih _

/-- s with other answers of the bus to come. -/
def State.withAnswers (as : List BusAnswer) (s : State) : State := { s with busAnswers := as }

@[simp] theorem withAnswers_withAnswers (as bs : List BusAnswer) (s : State) :
    (s.withAnswers as).withAnswers bs = s.withAnswers bs := rfl
@[simp] theorem withAnswers_params (as : List BusAnswer) (s : State) : (s.withAnswers as).params = s.params := rfl
@[simp] theorem withAnswers_board (as : List BusAnswer) (s : State) (b : Nat) :
    (s.withAnswers as).board b = s.board b := rfl
@[simp] theorem withAnswers_recorded (as : List BusAnswer) (s : State) (k : Nat) (c i o : Byte) (l : Subsystem) :
    (s.withAnswers as).recorded k c i o l = (s.recorded k c i o l).withAnswers as := rfl
theorem withAnswers_self {s : State} {as : List BusAnswer} (h : s.busAnswers = as) : s.withAnswers as = s :=
  h ▸ rfl

/-- Transactions read no answer, so the answers may be set before or after them. -/
theorem afterTxns_withAnswers (i op : Byte) (l : List Event) (as : List BusAnswer) (s : State) :
    (s.withAnswers as).afterTxns i op l = (s.afterTxns i op l).withAnswers as := by
  induction l generalizing s with
  | nil => rfl
  | cons e l ih =>
    cases e with
    | txn k a out n st bs =>
      unfold State.afterTxns
      dsimp only
      split
      · exact ih { s with trace := s.trace ++ [Event.txn k a out n st bs] }
      · exact ih (State.recorded { s with trace := s.trace ++ [Event.txn k a out n st bs] } 3 (statusCode st)
          i op .aal)
    | busInit hz => exact ih { s with trace := s.trace ++ [.busInit hz] }
    | modTick dt => exact ih { s with trace := s.trace ++ [.modTick dt] }
    | sampleReady raw => exact ih { s with trace := s.trace ++ [.sampleReady raw] }
    | log a b c d => exact ih { s with trace := s.trace ++ [.log a b c d] }

/-- Transactions are a bus effect. -/
theorem afterTxns_effect (i op : Byte) (l : List Event) (s : State) : BusEffect s (s.afterTxns i op l) := by
  induction l generalizing s with
  | nil => exact .refl s
  | cons e l ih =>
    cases e with
    | txn k a out n st bs =>
      unfold State.afterTxns
      dsimp only
      refine BusEffect.trans ?_ (ih _)
      split
      · exact ⟨rfl, List.prefix_append _ _⟩
      · exact ⟨rfl, by simp only [State.recorded, List.append_assoc]; exact List.prefix_append _ _⟩
    | _ => exact BusEffect.trans ⟨rfl, List.prefix_append _ _⟩ (ih _)

/-- One bus operation is a bus effect. -/
theorem afterRun_effect (i op : Byte) (r : BusRun) (s : State) : BusEffect s (s.afterRun i op r) :=
  have h := afterTxns_effect i op r.txns s
  ⟨by unfold State.afterRun; rw [h.rest], h.trace⟩

/-- Transactions do not change the parameters. -/
@[simp] theorem afterTxns_params (i op : Byte) (l : List Event) (s : State) :
    (s.afterTxns i op l).params = s.params := (afterTxns_effect i op l s).params

/-! ### The operations -/

/-- A write of one scripted answer. -/
theorem busWrite_withAnswers (s : State) (a : BusAnswer) (rest : List BusAnswer) (addr : BusAddr)
    (bytes : List Byte) (i op : Byte) :
    (s.withAnswers (a :: rest)).busWrite addr bytes i op =
      (a.status, (s.afterTxns i op [.txn .write addr bytes 0 a.status []]).withAnswers rest) := by
  rw [← afterTxns_withAnswers, ← recordTxn_eq]
  rfl

/-- A probe of one scripted answer. -/
theorem busProbe_withAnswers (s : State) (a : BusAnswer) (rest : List BusAnswer) (addr : BusAddr)
    (i op : Byte) :
    (s.withAnswers (a :: rest)).busProbe addr i op =
      (a.status, (s.afterTxns i op [.txn .probe addr [] 0 a.status []]).withAnswers rest) := by
  rw [← afterTxns_withAnswers, ← recordTxn_eq]
  rfl

/-- A two-byte read of one scripted answer. -/
theorem busRead2_withAnswers (s : State) (a : BusAnswer) (rest : List BusAnswer) (addr : BusAddr)
    (i op : Byte) :
    (s.withAnswers (a :: rest)).busRead2 addr i op =
      ((a.status, a.first ++ a.second),
        (s.afterTxns i op [.txn .read addr [] 2 a.status (readBytes a)]).withAnswers rest) := by
  rw [← afterTxns_withAnswers, ← recordTxn_eq]
  rfl

/-- A bracketed operation of one transaction is its run (44_bus.md R344 to R346). -/
theorem bracketed_run {s : State} {bd : Board} {kind : TxnKind} {bytes : List Byte} {i op : Byte}
    {x : State → BusStatus × State}
    (hx : ∀ (u : State) (a : BusAnswer) (rest : List BusAnswer), x (u.withAnswers (a :: rest)) =
      (a.status, (u.afterTxns i op [.txn kind bd.addr bytes 0 a.status []]).withAnswers rest))
    (h : 2 * segCount bd + 1 ≤ s.busAnswers.length) :
    s.bracketed bd i op x =
      ((boardRun s.params bd kind bytes s.busAnswers).status,
        s.afterRun i op (boardRun s.params bd kind bytes s.busAnswers)) := by
  obtain ⟨as, ha⟩ : ∃ as, s.busAnswers = as := ⟨_, rfl⟩
  rw [ha] at h ⊢
  conv => lhs; rw [← withAnswers_self ha]
  unfold segCount at h
  cases hc : bd.cluster with
  | none =>
    rw [if_pos hc] at h
    match as, h with
    | a :: rest, _ =>
      rw [bracketed_root hc, hx]
      simp only [boardRun, inSegment, hc, txnRun]
      rfl
  | some c =>
    rw [if_neg (by simp [hc])] at h
    match as, h with
    | a₁ :: a₂ :: a₃ :: rest, _ =>
      simp only [State.bracketed, State.segBegin, State.segEnd, hc, busWrite_withAnswers, withAnswers_params,
        boardRun, inSegment, txnRun, List.getD_cons_zero, List.getD_cons_succ, List.drop_succ_cons,
        List.drop_zero]
      by_cases h₁ : a₁.status = .ok
      · simp only [h₁, if_true, hx, busWrite_withAnswers, withAnswers_params, afterTxns_params,
          ← afterTxns_append]
        rfl
      · simp only [h₁, if_false, busWrite_withAnswers, withAnswers_params, afterTxns_params,
          ← afterTxns_append]
        rfl

/-- A write to a board is its run. -/
theorem boardWrite_run {s : State} {b : Nat} (h : 2 * segCount (s.board b) + 1 ≤ s.busAnswers.length)
    (bytes : List Byte) (op : Byte) :
    s.boardWrite b bytes op =
      ((boardRun s.params (s.board b) .write bytes s.busAnswers).status,
        s.afterRun (BitVec.ofNat 8 b) op (boardRun s.params (s.board b) .write bytes s.busAnswers)) :=
  bracketed_run (fun _ _ _ => busWrite_withAnswers ..) h

/-- A probe of a board is its run. -/
theorem boardProbe_run {s : State} {b : Nat} (h : 2 * segCount (s.board b) + 1 ≤ s.busAnswers.length)
    (op : Byte) :
    s.boardProbe b op =
      ((boardRun s.params (s.board b) .probe [] s.busAnswers).status,
        s.afterRun (BitVec.ofNat 8 b) op (boardRun s.params (s.board b) .probe [] s.busAnswers)) :=
  bracketed_run (fun _ _ _ => busProbe_withAnswers ..) h

/-- An ADC register read is its run (44_bus.md R351). -/
theorem adcRead_run {s : State} {b : Nat} (h : 2 * segCount (s.board b) + 2 ≤ s.busAnswers.length)
    (ptr op : Byte) :
    s.adcRead b ptr op =
      (((adcRun s.params (s.board b) ptr s.busAnswers).status, (adcRun s.params (s.board b) ptr s.busAnswers).word),
        s.afterRun (BitVec.ofNat 8 b) op (adcRun s.params (s.board b) ptr s.busAnswers)) := by
  obtain ⟨as, ha⟩ : ∃ as, s.busAnswers = as := ⟨_, rfl⟩
  rw [ha] at h ⊢
  conv => lhs; rw [← withAnswers_self ha]
  unfold segCount at h
  cases hc : (s.board b).cluster with
  | none =>
    rw [if_pos hc] at h
    match as, h with
    | a₁ :: a₂ :: rest, _ =>
      simp only [State.adcRead, State.segBegin, State.segEnd, withAnswers_board, hc, if_true,
        busWrite_withAnswers, adcRun, inSegment, registerRun, txnRun, List.getD_cons_zero, List.getD_cons_succ,
        List.drop_succ_cons, List.drop_zero]
      by_cases h₁ : a₁.status = .ok
      · simp only [h₁, if_true, busRead2_withAnswers, ← afterTxns_append]
        rfl
      · simp only [h₁, if_false]
        rfl
  | some c =>
    rw [if_neg (by simp [hc])] at h
    match as, h with
    | a₁ :: a₂ :: a₃ :: a₄ :: rest, _ =>
      simp only [State.adcRead, State.segBegin, State.segEnd, withAnswers_board, hc, busWrite_withAnswers,
        withAnswers_params, adcRun, inSegment, registerRun, txnRun, List.getD_cons_zero, List.getD_cons_succ,
        List.drop_succ_cons, List.drop_zero]
      by_cases h₁ : a₁.status = .ok
      · by_cases h₂ : a₂.status = .ok
        · simp only [h₁, h₂, if_true, busWrite_withAnswers, busRead2_withAnswers, withAnswers_params,
            afterTxns_params, ← afterTxns_append]
          rfl
        · simp only [h₁, h₂, if_true, if_false, afterTxns_params, ← afterTxns_append]
          rfl
      · simp only [h₁, if_false, afterTxns_params, ← afterTxns_append]
        rfl

end Sys2Proof.Machine
end

