-- ==== Sys2Proof/Laws/Voice.lean ====
section
/-! SUPPORT. What Process, Update and Flush can do, said once: which fields they may change, and that one
voice's turn leaves every other voice. -/

namespace Sys2Proof.Machine

open Sys2Proof.Config

/-- Clear changes the voice and the group counters only (41_voice.md R206). -/
theorem clearVoice_rest (s : State) (v : Nat) :
    s.clearVoice v =
      { s with voices := (s.clearVoice v).voices, groupCount := (s.clearVoice v).groupCount } := by
  unfold State.clearVoice
  dsimp only
  split <;> rfl

/-- Clear leaves every other voice. -/
theorem clearVoice_voice_ne (s : State) {v w : Nat} (h : v ≠ w) : (s.clearVoice v).voice w = s.voice w := by
  unfold State.clearVoice
  dsimp only
  rw [State.setVoice_voice_ne _ _ _ _ h]
  split <;> rfl

/-- The state step of Process changes the voice, the group counters and the error record only
(41_voice.md R209 to R213). -/
theorem stateStep_rest (s : State) (v : Nat) (dt : F32) (op : Byte) :
    s.stateStep v dt op =
      { s with
        voices := (s.stateStep v dt op).voices
        groupCount := (s.stateStep v dt op).groupCount
        err := (s.stateStep v dt op).err
        lastErr := (s.stateStep v dt op).lastErr
        trace := (s.stateStep v dt op).trace } := by
  have viol : s.invariantViolation v op =
      { s with
        voices := (s.invariantViolation v op).voices
        groupCount := (s.invariantViolation v op).groupCount
        err := (s.invariantViolation v op).err
        lastErr := (s.invariantViolation v op).lastErr
        trace := (s.invariantViolation v op).trace } := by
    unfold State.invariantViolation
    rw [clearVoice_rest]
    rfl
  unfold State.stateStep
  split
  · rfl
  · rfl
  · rfl
  · unfold State.releaseStep
    dsimp only
    split
    · rfl
    · split
      · rfl
      · rw [clearVoice_rest]; rfl
  all_goals exact viol

/-- The state step of Process leaves every other voice. -/
theorem stateStep_voice_ne (s : State) {v w : Nat} (dt : F32) (op : Byte) (h : v ≠ w) :
    (s.stateStep v dt op).voice w = s.voice w := by
  unfold State.stateStep State.invariantViolation State.releaseStep
  dsimp only
  split
  · exact State.setVoice_voice_ne _ _ _ _ h
  · exact State.setVoice_voice_ne _ _ _ _ h
  · exact State.setVoice_voice_ne _ _ _ _ h
  · split
    · exact State.setVoice_voice_ne _ _ _ _ h
    · split
      · exact State.setVoice_voice_ne _ _ _ _ h
      · rw [clearVoice_voice_ne _ h, State.setVoice_voice_ne _ _ _ _ h]
  all_goals rw [clearVoice_voice_ne _ h, State.raise_voice]

/-- Process changes the voice, the group counters and the error record only (41_voice.md R205). -/
theorem processVoice_rest (s : State) (v : Nat) (dt : F32) (op : Byte) :
    s.processVoice v dt op =
      { s with
        voices := (s.processVoice v dt op).voices
        groupCount := (s.processVoice v dt op).groupCount
        err := (s.processVoice v dt op).err
        lastErr := (s.processVoice v dt op).lastErr
        trace := (s.processVoice v dt op).trace } := by
  unfold State.processVoice
  dsimp only
  split
  · rw [stateStep_rest]; rfl
  · split
    · rfl
    · unfold State.invariantViolation
      rw [clearVoice_rest]
      rfl

/-- Process leaves every other voice (60_exceptions.md R382). -/
theorem processVoice_voice_ne (s : State) {v w : Nat} (dt : F32) (op : Byte) (h : v ≠ w) :
    (s.processVoice v dt op).voice w = s.voice w := by
  unfold State.processVoice
  dsimp only
  split
  · rw [State.setVoice_voice_ne _ _ _ _ h, stateStep_voice_ne _ _ _ h, State.setVoice_voice_ne _ _ _ _ h]
  · split
    · rfl
    · unfold State.invariantViolation
      rw [clearVoice_voice_ne _ h, State.raise_voice]

/-- SetOut changes the boards and the error record only (43_aal.md R289). -/
theorem setOut_rest (s : State) (d : Byte) (k : Kind) (value : Half) (op : Byte) :
    s.setOut d k value op =
      { s with
        boards := (s.setOut d k value op).boards
        err := (s.setOut d k value op).err
        lastErr := (s.setOut d k value op).lastErr
        trace := (s.setOut d k value op).trace } := by
  rcases setOut_cases s d k value op with ⟨-, -, -, h⟩ | ⟨-, -, -, h⟩ | ⟨-, h⟩ <;> rw [h] <;> rfl

/-- Update changes the voice, the boards and the error record only (41_voice.md R215). -/
theorem updateVoice_rest (s : State) (v : Nat) (op : Byte) :
    s.updateVoice v op =
      { s with
        voices := (s.updateVoice v op).voices
        boards := (s.updateVoice v op).boards
        err := (s.updateVoice v op).err
        lastErr := (s.updateVoice v op).lastErr
        trace := (s.updateVoice v op).trace } := by
  unfold State.updateVoice
  dsimp only
  split
  · rw [setOut_rest]; rfl
  · rfl

/-- Update leaves every other voice. -/
theorem updateVoice_voice_ne (s : State) {v w : Nat} (op : Byte) (h : v ≠ w) :
    (s.updateVoice v op).voice w = s.voice w := by
  unfold State.updateVoice
  dsimp only
  split
  · rw [setOut_rest]
    exact State.setVoice_voice_ne _ _ _ _ h
  · rfl

/-- A scan whose every turn changes only the boards and what a bus effect changes does only that. -/
theorem foldl_boards_effect (f : State → Nat → State)
    (h : ∀ s b, BusEffect { s with boards := (f s b).boards } (f s b)) (l : List Nat) (s : State) :
    BusEffect { s with boards := (l.foldl f s).boards } (l.foldl f s) := by
  induction l generalizing s with
  | nil => exact .refl s
  | cons b rest ih =>
    rw [List.foldl_cons]
    exact ((h s b).withBoards _).trans (ih (f s b))

/-- Flush changes the boards and what a bus effect changes (43_aal.md R292). -/
theorem flushAll_effect (s : State) (op : Byte) :
    BusEffect { s with boards := (s.flushAll op).boards } (s.flushAll op) :=
  foldl_boards_effect _ (fun s b => flushBoard_effect s b op) _ s

end Sys2Proof.Machine
end

