-- ==== Sys2Proof/Tests/Slice0.lean ====
section
/-! SUPPORT. Tests: words written out from the spec's encodings, ill-formed terms, one step of each
instruction against the spec's examples, and for each statement with hypotheses a witness that they can be
met together, at the boundaries of its clauses. -/

namespace Sys2Proof.Tests

-- The many small kernel evaluations below run one after another, so that they do not each hold a thread.
set_option Elab.async false

open Sys2Proof Sys2Proof.Machine Sys2Proof.Config

/-! ### Decoding (30_encoding.md R141, R144, R146; 43_aal.md, 41_voice.md examples) -/

theorem test_decode_rd : decode (.frame 0x0000106300000000#64) = .ok (.rd 0x1063#16) := by decide
theorem test_decode_wr : decode (.frame 0x8000000802030000#64) = .ok (.wr 0x0008#16 0x02030000#32) := by decide
theorem test_decode_nop : decode (.command 0x00000000#32) = .ok .nop := by decide
theorem test_decode_newvoice : decode (.command 0x01000103#32) = .ok (.newvoice 0#8 1#4 3#8) := by decide
theorem test_decode_start : decode (.command 0x02030000#32) = .ok (.start 3#8) := by decide
theorem test_decode_end : decode (.command 0x030F0000#32) = .ok (.endNote 15#8) := by decide
theorem test_decode_process : decode (.command 0x04010000#32) = .ok (.process 1#8) := by decide
theorem test_decode_update : decode (.command 0x05020000#32) = .ok (.update 2#8) := by decide
theorem test_decode_tick : decode (.command 0x06000000#32) = .ok .tick := by decide
theorem test_decode_begin : decode (.command 0x10000000#32) = .ok .beginAal := by decide
theorem test_decode_setao : decode (.command 0x11020ABC#32) = .ok (.setao 2#8 0x0ABC#16) := by decide
theorem test_decode_setdo : decode (.command 0x12060001#32) = .ok (.setdo 6#8 1#1) := by decide
theorem test_decode_flush : decode (.command 0x13000000#32) = .ok .flush := by decide
theorem test_decode_startconv : decode (.command 0x140C0000#32) = .ok (.startconv 12#8) := by decide
theorem test_decode_poll : decode (.command 0x15000000#32) = .ok .poll := by decide
theorem test_decode_validate : decode (.command 0x16030000#32) = .ok (.validate 3#8) := by decide
theorem test_decode_resetboard : decode (.command 0x17040000#32) = .ok (.resetboard 4#8) := by decide

/-- Reserved opcodes at the ends of both ranges (R147). -/
theorem test_decode_reserved :
    decode (.command 0x07000000#32) = .error .reservedOpcode ∧
    decode (.command 0x0F000000#32) = .error .reservedOpcode ∧
    decode (.command 0x18000000#32) = .error .reservedOpcode ∧
    decode (.command 0xFF000000#32) = .error .reservedOpcode := by decide

/-- Must-be-zero fields (R148 check 2) and malformed frames (R142). -/
theorem test_decode_nonzero :
    decode (.command 0x00010000#32) = .error .nonzeroField ∧
    decode (.command 0x01001103#32) = .error .nonzeroField ∧
    decode (.command 0x12060002#32) = .error .nonzeroField ∧
    decode (.frame 0x0000000000000001#64) = .error .malformedFrame ∧
    decode (.frame 0x8001000000000000#64) = .error .malformedFrame := by decide

/-! ### Well-formedness (30_encoding.md R148 check 3) -/

theorem test_illformed_newvoice_voice : Instr.wellFormed 16 4 0 (.newvoice 16#8 0#4 0#8) = false := by decide
theorem test_illformed_newvoice_group : Instr.wellFormed 16 4 0 (.newvoice 0#8 4#4 0#8) = false := by decide
theorem test_illformed_start : Instr.wellFormed 16 4 0 (.start 16#8) = false := by decide
theorem test_illformed_end : Instr.wellFormed 16 4 0 (.endNote 16#8) = false := by decide
theorem test_illformed_process : Instr.wellFormed 16 4 0 (.process 255#8) = false := by decide
theorem test_illformed_update : Instr.wellFormed 16 4 0 (.update 16#8) = false := by decide
theorem test_illformed_validate : Instr.wellFormed 16 4 2 (.validate 2#8) = false := by decide
theorem test_illformed_resetboard : Instr.wellFormed 16 4 0 (.resetboard 0#8) = false := by decide
theorem test_wellformed_last : Instr.wellFormed 16 4 2 (.newvoice 15#8 3#4 255#8) = true := by decide

/-! ### Small states -/

/-- The state after an instruction. -/
def after (i : Instr) (s : State) : State :=
  match exec i s with
  | .next t => t
  | .fault _ => s
  | .refused _ => s

/-- An outcome is a next state with a property. -/
def goes (o : Host.Outcome State Fault Refusal) (p : State → Bool) : Bool :=
  match o with
  | .next t => p t
  | .fault _ => false
  | .refused _ => false

/-- The next state that goes says there is. -/
theorem goes_next {o : Host.Outcome State Fault Refusal} {p : State → Bool} (h : goes o p = true) :
    ∃ t, o = .next t ∧ p t = true := by
  cases o with
  | next t => exact ⟨t, rfl, h⟩
  | fault _ => cases h
  | refused _ => cases h

/-- The next state alone. -/
theorem goes_on {o : Host.Outcome State Fault Refusal} (h : goes o (fun _ => true) = true) :
    ∃ t, o = .next t :=
  (goes_next h).imp fun _ k => k.1

/-- A successful bus answer, and one of another status. -/
def good : BusAnswer := { status := .ok, first := 0#8, second := 0#8 }
def nack : BusAnswer := { status := .addressNack, first := 0#8, second := 0#8 }

/-- A modulation answer: triangle 0.5, sine -1.0. -/
def lfo : ModAnswer := ⟨0x3F000000#32, 0xBF800000#32, by decide, by decide⟩

/-- The root DAC_SEL board of 43_aal.md R280's example. -/
def dac : Board where
  cluster := none
  slice := 0#3
  addr := 0x60#7
  family := .dacSel
  valid := true
  dirty := 0#16
  nch := 4#5
  kind := .ao
  buf := List.replicate 16 0#16

/-- A GPIO board of 8 channels, and an ADC board of 4. -/
def gpio : Board := { dac with addr := 0x20#7, family := .gpio, nch := 8#5, kind := .do_ }
def adc : Board := { dac with addr := 0x48#7, family := .adc, kind := .ai }

/-- The three boards built, handles 0..3, 4..11 and 12..15, and a bus that answers success. -/
def rig : State :=
  { State.reset with
    boards := [dac, gpio, adc]
    devices := buildDevices Params.default 0 [dac, gpio, adc]
    begun := true
    busAnswers := List.replicate 12 good
    modAnswers := [lfo] }

/-- A bound voice on device 0, from 0.0 to 1.0. -/
def voice : Voice :=
  { Voice.reset with
    bound := true
    top := 0x3F800000#32
    attackMs := 0x42C80000#32
    decayMs := 0x42480000#32
    releaseMs := 0x43480000#32
    scale := 0x457FF000#32 }

/-- The rig with one voice and its group's count. -/
def rigWith (x : Voice) : State :=
  { rig with voices := [x], groupCount := [if x.active then 1#8 else 0#8] }

/-- An active voice in a state. -/
def playing (st : EnvState) : Voice := { voice with active := true, state := st }

/-- The rig with DAC pending on channel 2. -/
def pending : State := { rig with boards := [{ dac with dirty := 4#16 }, gpio, adc] }

/-- DAC behind cluster 2, slice 3. -/
def behind : State := { rig with boards := [{ dac with cluster := some 2#3, slice := 3#3 }, gpio, adc] }

/-- The rig awaiting handle 12, with the status answer not busy and the result -200 (43_aal.md R296). -/
def awaited : State :=
  { rig with
    awaiting := true
    awaitDev := 12#8
    busAnswers := [good, { good with first := 0x85#8, second := 0x83#8 }, good,
      { good with first := 0xFF#8, second := 0x38#8 }] }

/-- The configuration table of 43_aal.md R280's example. -/
def configured : State :=
  { State.reset with
    table := { w0 := 0x000600FF#32, w1 := 0x00000004#32 } :: List.replicate 15 Descriptor.terminator
    busAnswers := [good] }

/-! ### One step of each instruction (the examples of the spec's rules) -/

/-- 40_host_access.md R180's example. -/
theorem test_rd : (after (.rd 0x0009#16) (after (.rd 0x0000#16) State.reset)).replies =
    [0x41445352#32, 0xFFFFFFFF#32] := by decide +kernel
/-- 40_host_access.md R181's example: bit 1 of GCTRL is reserved. -/
theorem test_wr : readReg (after (.wr 0x0002#16 0x00000003#32) State.reset) 0x0002#16 = 1#32 := by
  decide +kernel
/-- 30_encoding.md R158: start 3 as a write to CMD; TOP is 0.0 at reset, so it is a no-op (R403). -/
theorem test_wr_cmd : after (.wr 0x0008#16 0x02030000#32) State.reset = State.reset := by decide +kernel
theorem test_nop : after .nop rig = rig := by decide +kernel
/-- 41_voice.md R201's example. -/
theorem test_newvoice : readReg (after (.newvoice 0#8 1#4 3#8) State.reset) 0x1002#16 = 0x00000103#32 := by
  decide +kernel
/-- 41_voice.md R202's example: STATE = START, ACTIVE = 1, BOUND = 1, and the group's count. -/
theorem test_start : readReg (after (.start 0#8) (rigWith voice)) 0x1001#16 = 0x00000109#32 ∧
    readReg (after (.start 0#8) (rigWith voice)) 0x0020#16 = 1#32 := by decide +kernel
/-- 41_voice.md R203's example: TRIGEND is set and STATE stays SUSTAIN. -/
theorem test_end : readReg (after (.endNote 0#8) (rigWith (playing .sustain))) 0x1001#16 = 0x0000011C#32 := by
  decide +kernel
/-- 41_voice.md R204's example: ATTACK, TIMER = 50.0, CURRENT = 0.5. -/
theorem test_process_attack :
    let t := after (.process 0#8) { rigWith (playing .start) with tickDt := 0x42480000#32 }
    (t.voice 0).state = .attack ∧ (t.voice 0).timer = 0x42480000#32 ∧
      (t.voice 0).current = 0x3F000000#32 := by decide +kernel
/-- 41_voice.md R212: a voice in RELEASE at its threshold clears, and its group is no longer counted. -/
theorem test_process_clear :
    let t := after (.process 0#8) (rigWith { playing .release with timer := 0x41A00000#32 })
    (t.voice 0).state = .idle ∧ (t.voice 0).active = false ∧ t.groupCount = [0#8] := by decide +kernel
/-- 41_voice.md R215's example: 0.5 of 4095.0 is code 2047, buffered. -/
theorem test_update :
    let t := after (.update 0#8) (rigWith { voice with current := 0x3F000000#32, dirty := true })
    (t.voice 0).lastCode = 0x07FF#16 ∧ (t.board 0).slot 0 = 0x07FF#16 ∧ (t.board 0).dirty = 1#16 := by
  decide +kernel
/-- 42_driver.md R260's example: the trace of one tick. -/
theorem test_tick :
    let t := after .tick { rigWith (playing .start) with tickDt := 0x42480000#32 }
    t.trace = [.modTick 0x42480000#32, .txn .write 0x60#7 [0x00#8, 0x07#8, 0xFF#8] 0 .ok []] ∧
      t.modTri = 0x3F000000#32 := by decide +kernel
/-- 43_aal.md R280's example. -/
theorem test_begin :
    (after .beginAal configured).trace = [.busInit 400000, .txn .probe 0x60#7 [] 0 .ok []] ∧
      readReg (after .beginAal configured) 0x000A#16 = 0x00040101#32 := by decide +kernel
/-- 43_aal.md R290's example. -/
theorem test_setao : readReg (after (.setao 2#8 0x0ABC#16) rig) 0x0202#16 = 0x0ABC#32 ∧
    ((after (.setao 2#8 0x0ABC#16) rig).board 0).dirty = 0x0004#16 := by decide +kernel
/-- 43_aal.md R291's example. -/
theorem test_setdo : readReg (after (.setdo 6#8 1#1) rig) 0x0212#16 = 1#32 ∧
    ((after (.setdo 6#8 1#1) rig).board 1).dirty = 0x0004#16 := by decide +kernel
/-- 43_aal.md R292's example, the coalescing property. -/
theorem test_flush :
    (after .flush (after (.setao 3#8 3#16) (after (.setao 1#8 2#16) (after (.setao 0#8 1#16) rig)))).trace =
      [.txn .write 0x60#7 [0x00#8, 0x00#8, 0x01#8, 0x01#8, 0x00#8, 0x02#8, 0x03#8, 0x00#8, 0x03#8] 0 .ok []] := by
  decide +kernel
/-- 43_aal.md R295's example: GAIN 1, RATE 4, channel 0. -/
theorem test_startconv :
    let t := after (.startconv 12#8) { rig with adcGain := 1#3, adcRate := 4#3 }
    t.trace = [.txn .write 0x48#7 [0x01#8, 0xC3#8, 0x83#8] 0 .ok []] ∧
      readReg t 0x000B#16 = 0x00000C01#32 := by decide +kernel
/-- 43_aal.md R296's example: raw = -200. -/
theorem test_poll : readReg (after .poll awaited) 0x000C#16 = 0xFFFFFF38#32 ∧
    readReg (after .poll awaited) 0x000B#16 = 0x00000C02#32 := by decide +kernel
/-- 43_aal.md R297's example: AddressNack. -/
theorem test_validate :
    let t := after (.validate 0#8) { rig with busAnswers := [nack] }
    readReg t 0x0004#16 = 0x00160010#32 ∧ readReg t 0x0003#16 = 0x00000018#32 ∧
      (t.board 0).valid = false := by decide +kernel
/-- 43_aal.md R298's example, on a board with a pending value. -/
theorem test_resetboard :
    let t := after (.resetboard 0#8) { pending with boards := [{ dac with valid := false, dirty := 4#16 }] }
    t.trace = [.txn .probe 0x60#7 [] 0 .ok []] ∧ t.boards = [dac] := by decide +kernel

/-! ### Witnesses: the hypotheses of each statement can be met -/

theorem witness_EncodeOfDecodeIsCode :
    decode (.command 0x1206FFFF#32) = .error .nonzeroField ∧
    decode (.command 0x11FFFFFF#32) = .ok (.setao 255#8 0xFFFF#16) ∧
    decode (.frame 0x8000FFFFFFFFFFFF#64) = .ok (.wr 0xFFFF#16 0xFFFFFFFF#32) := by decide

theorem witness_FailedDecodeCheckOnlyRecords :
    reservedOpcode (cmdOpc 0x0F000000#32) = true ∧ reservedOpcode (cmdOpc 0x18000000#32) = true ∧
    0x12060002#32 &&& mustBeZero (cmdOpc 0x12060002#32) ≠ 0#32 ∧
    indexOutOfRange rig 0x02100000#32 ∧ indexOutOfRange rig 0x01000400#32 ∧
    indexOutOfRange rig 0x16030000#32 := by
  refine ⟨by decide, by decide, by decide, .inl (by decide), .inr (.inl (by decide)), .inr (.inr (by decide))⟩

theorem witness_StepRunsTheNextHostAccess :
    State.reset.frames = [] ∧
    ∃ i, { rig with frames := [0x0000106300000000#64] }.frames = 0x0000106300000000#64 :: [] ∧
      decodeFrame 0x0000106300000000#64 = .ok i :=
  ⟨rfl, .rd 0x1063#16, rfl, by decide⟩

theorem witness_MalformedFrameOnlyRecords :
    let f : Frame := 0x8001000200000000#64
    let g : Frame := 0x0001000200000000#64
    let h : Frame := 0x0000000200000001#64
    (f.getLsbD 63 = true ∧ f.extractLsb' 48 15 ≠ 0#15) ∧
    (g.getLsbD 63 = false ∧ g.extractLsb' 48 15 ≠ 0#15) ∧
    (h.getLsbD 63 = false ∧ h.extractLsb' 0 32 ≠ 0#32) ∧
    { rig with frames := [f] }.frames = f :: [] := by decide

theorem witness_ErrBitStaysUntilCleared :
    let s := { rig with err := 0x1FF#9, frames := [0x80000003000000FE#64] }
    (∃ t, step s = .next t) ∧ s.err.getLsbD 8 = true ∧
    ∀ (w : Word) (rest : List Frame),
      s.frames = (0x8000#16 ++ 0x0003#16 ++ w) :: rest → w.getLsbD 8 = false := by
  refine ⟨goes_on (by decide +kernel), by decide, ?_⟩
  intro w rest h
  have e : (0x80000003000000FE#64 : Frame) = 0x8000#16 ++ 0x0003#16 ++ w := (List.cons.inj h).1
  have k := congrArg (fun f : Frame => f.getLsbD 8) e
  simp only [BitVec.getLsbD_append] at k
  simpa using k.symm

theorem witness_HostAccessFollowsTheMap :
    State.reset.numGroups ≤ 16 ∧ mapped 16 4 0x000D ∧ ¬mapped 16 4 0x000E ∧ mapped 16 4 0x0023 ∧
    ¬mapped 16 4 0x0024 ∧ mapped 16 4 0x11F1 ∧ ¬mapped 16 4 0x1012 ∧ ¬mapped 16 4 0xFFFF := by
  have no : ∀ a, (∃ v o, v < 16 ∧ o ≤ 0x11 ∧ a = 0x1000 + 0x20 * v + o) → 0x1000 ≤ a ∧ a ≤ 0x11F1 ∧ a % 0x20 ≤ 0x11 := by
    rintro a ⟨v, o, hv, ho, rfl⟩
    omega
  refine ⟨by decide, .inl (by decide), ?_, .inr (.inl (by decide)), ?_,
    .inr (.inr (.inr (.inr (.inr (.inr ⟨15, 0x11, by decide, by decide, rfl⟩))))), ?_, ?_⟩ <;>
  · rintro (h | h | h | h | h | h | h) <;> omega

theorem witness_TableRegistersRead :
    3 < rig.numGroups ∧ 2 < rig.numBoards ∧ rig.numBoards ≤ 3 ∧ 15 < rig.numDevices ∧
    rig.numDevices ≤ 16 := by decide +kernel

theorem witness_VoiceRegistersRead : 15 < State.reset.numVoices ∧ 15 < 64 := by decide

theorem witness_ReadOnlyWriteIsRefused :
    State.reset.numGroups ≤ 16 ∧ readOnlyGlobal 4 0x0000 ∧ readOnlyGlobal 4 0x0023 ∧
    readOnlyGlobal 4 0x04FF ∧ 15 < State.reset.numVoices ∧ 0x11 ∈ [0x01, 0x02, 0x0D, 0x0E, 0x0F, 0x10, 0x11] :=
  ⟨by decide, .inl (by decide), .inr (.inl (by decide)),
    .inr (.inr (.inr (.inr (by decide)))), by decide, by decide⟩

/-- 1.0, the next value above it, -0.0, 65535.0, an infinity and a negative value, for an unbound and a
bound voice. -/
theorem witness_CheckedStoreTakesLegalValuesOnly :
    let finite (w : Word) : Prop := w.extractLsb' 23 8 ≠ 0xFF#8
    0 < State.reset.numVoices ∧ (State.reset.voice 0).bound = false ∧ ((rigWith voice).voice 0).bound = true ∧
    (finite 0x3F800000#32 ∧ fge 0x3F800000#32 fZero = true ∧ fle 0x3F800000#32 fOne = true) ∧
    (finite 0x80000000#32 ∧ fge 0x80000000#32 fZero = true ∧ fle 0x80000000#32 fOne = true) ∧
    fle 0x3F800001#32 fOne = false ∧ fge 0xBF800000#32 fZero = false ∧ ¬finite 0x7F800000#32 ∧
    (finite 0x477FFF00#32 ∧ fge 0x477FFF00#32 fZero = true ∧ fle 0x477FFF00#32 f65535 = true) ∧
    fle 0x477FFF01#32 f65535 = false ∧ finite 0xC1200000#32 := by decide +kernel

theorem witness_VctrlWriteStoresAndMarksDirty : 15 < State.reset.numVoices ∧ 15 < 64 := by decide

theorem witness_HostWriteLeavesOtherAddresses :
    (∃ t, exec (.wr 0x100A#16 0x3F800000#32) State.reset = .next t) ∧ (0x100A#16 : HostAddr) ≠ 0x0008#16 ∧
    (0x100B#16 : HostAddr) ≠ 0x100A#16 ∧ (0x100B#16 : HostAddr) ≠ 0x0003#16 ∧
    (0x100B#16 : HostAddr) ≠ 0x0004#16 ∧ 0x100B#16 ≠ voiceAddr ((0x100A - 0x1000) / 0x20) 0x01 :=
  ⟨goes_on (by decide +kernel), by decide, by decide, by decide, by decide, by decide⟩

theorem witness_NewvoiceBindsOnce :
    (15#8).toNat < State.reset.numVoices ∧ (3#4).toNat < State.reset.numGroups ∧
    (State.reset.voice 15).bound = false ∧ (0#8).toNat < (rigWith voice).numVoices ∧
    (0#4).toNat < (rigWith voice).numGroups ∧ ((rigWith voice).voice 0).bound = true := by decide +kernel

theorem witness_StartActivatesOrDoesNothing :
    (0#8).toNat < (rigWith voice).numVoices ∧
    (voice.bound = true ∧ voice.active = false ∧ feq voice.top fZero = false ∧ voice.mute = false) ∧
    feq { voice with top := 0x80000000#32 }.top fZero = true := by decide +kernel

theorem witness_EndOnlySetsTriggerEnd :
    (0#8).toNat < (rigWith (playing .attack)).numVoices ∧
    ((rigWith (playing .attack)).voice 0).active = true ∧ ((rigWith voice).voice 0).active = false := by
  decide +kernel

theorem witness_ProcessEntersAttackInTheSameCall :
    (0#8).toNat < (rigWith voice).numVoices ∧ voice.active = false ∧ voice.state = .idle ∧
    (playing .start).active = true ∧ (playing .start).state = .start := by decide +kernel

theorem witness_ProcessTakesTriggerEnd :
    let x (st : EnvState) : Voice := { playing st with trigEnd := true }
    (0#8).toNat < (rigWith (x .attack)).numVoices ∧ (x .attack).active = true ∧
    (x .attack).trigEnd = true ∧ (x .decay).state = .decay ∧ (x .sustain).state = .sustain ∧
    (x .release).state = .release := by decide +kernel

/-- TIMER just below, and equal to, TARGET = 100.0, with and without NODECAY. -/
theorem witness_ProcessInAttack :
    let x (t : F32) : Voice := { playing .attack with timer := t, target := 0x42C80000#32 }
    (0#8).toNat < (rigWith (x 0#32)).numVoices ∧ (x 0#32).active = true ∧ (x 0#32).state = .attack ∧
    (x 0#32).trigEnd = false ∧ fge (fadd (x 0x42C7FFFF#32).timer 0#32) (x 0#32).target = false ∧
    fge (fadd (x 0x42C80000#32).timer 0#32) (x 0#32).target = true ∧ (x 0#32).noDecay = false ∧
    { x 0#32 with noDecay := true }.noDecay = true := by decide +kernel

/-- TIMER just above, and equal to, DECAY_SNAP_MS = 10.0. -/
theorem witness_ProcessInDecay :
    let x := playing .decay
    (0#8).toNat < (rigWith x).numVoices ∧ x.active = true ∧ x.state = .decay ∧ x.trigEnd = false ∧
    fgt (fsub 0x41200001#32 (rigWith x).tickDt) (rigWith x).params.decaySnapMs = true ∧
    fgt (fsub 0x41200000#32 (rigWith x).tickDt) (rigWith x).params.decaySnapMs = false := by decide +kernel

theorem witness_ProcessInSustain :
    let x : Voice := { playing .sustain with peak := true }
    (0#8).toNat < (rigWith x).numVoices ∧ x.active = true ∧ x.state = .sustain ∧ x.trigEnd = false ∧
    (x.peak = true ∧ x.dualUse = false ∧ fne x.current x.top = true) ∧
    fne { x with current := 0x3F800000#32 }.current x.top = false := by decide +kernel

/-- TIMER just above, and equal to, RELEASE_SNAP_MS = 20.0, held in both modes and not held. -/
theorem witness_ProcessInRelease :
    let x := playing .release
    (0#8).toNat < (rigWith x).numVoices ∧ x.active = true ∧ x.state = .release ∧ x.trigEnd = false ∧
    fgt (fsub 0x41A00001#32 (rigWith x).tickDt) (rigWith x).params.releaseSnapMs = true ∧
    fgt (fsub 0x41A00000#32 (rigWith x).tickDt) (rigWith x).params.releaseSnapMs = false ∧
    ({ x with pedal := true }.dmode = .normal ∧ { x with pedal := true }.pedal = true) ∧
    ({ x with dmode := .invert }.dmode = .invert ∧ { x with dmode := .invert }.pedal = false) ∧
    ¬((x.dmode = .normal ∧ x.pedal = true) ∨ (x.dmode = .invert ∧ x.pedal = false)) := by decide +kernel

theorem witness_ProcessForcesAnImpossibleVoiceClear :
    (0#8).toNat < (rigWith (playing .illegal6)).numVoices ∧ (playing .illegal6).active = true ∧
    (playing .illegal6).trigEnd = false ∧ (playing .illegal7).state = .illegal7 ∧
    (playing .idle).state = .idle ∧ { playing .attack with active := false }.active = false ∧
    { playing .attack with active := false }.state ≠ .idle := by decide +kernel

/-- Device 3 is the last analog output; 4 is a digital one and 16 is none. -/
theorem witness_UpdateSendsADirtyVoice :
    let x : Voice := { voice with channel := 3#8, dirty := true }
    (0#8).toNat < (rigWith x).numVoices ∧ x.bound = true ∧ { x with bound := false }.bound = false ∧
    { x with dirty := false }.dirty = false ∧ x.dirty = true ∧ x.channel.toNat < rig.numDevices ∧
    (rig.device 3).kind = .ao ∧ (rig.board (rig.device 3).board.toNat).valid = true ∧
    ({ rig with boards := [{ dac with valid := false }] }.board 0).valid = false ∧
    ¬((rig.device 4).kind = .ao) ∧ ¬(16 < rig.numDevices) := by decide +kernel

/-- -0.0, the smallest positive value, the value below 65535.0, and 65535.0. -/
theorem witness_CodeIsTheWholePart :
    fNaN 0x80000000#32 = false ∧ fgt 0x80000000#32 fZero = false ∧
    fgt 0x00000001#32 fZero = true ∧ fge 0x00000001#32 f65535 = false ∧
    fgt 0x477FFEFF#32 fZero = true ∧ fge 0x477FFEFF#32 f65535 = false ∧
    fge 0x477FFF00#32 f65535 = true := by decide +kernel

/-- The largest finite value with the smallest subnormal, with the least value that overflows it (the tie) and
with the one below; an infinity and a NaN; values below 0, above 1.0 and at both. -/
theorem witness_SumsRoundAndComparisonsOrderByValue :
    fFinite 0x7F7FFFFF#32 = true ∧ fFinite 0x00000001#32 = true ∧
    fFinite (fadd 0x7F7FFFFF#32 0x00000001#32) = true ∧ fFinite (fsub 0x7F7FFFFF#32 0x00000001#32) = true ∧
    |fInt 0x7F7FFFFF#32 + fInt 0x72FFFFFF#32| < overflowBound ∧
    overflowBound ≤ |fInt 0x7F7FFFFF#32 + fInt 0x73000000#32| ∧
    |fInt 0xFF7FFFFF#32 - fInt 0x72FFFFFF#32| < overflowBound ∧
    overflowBound ≤ |fInt 0xFF7FFFFF#32 - fInt 0x73000000#32| ∧
    fNaN 0x7F800000#32 = false ∧ fNaN 0x7F800001#32 = true ∧ fInt 0x80000001#32 < 0 ∧
    2 ^ 149 < fInt 0x3F800001#32 ∧ 0 ≤ fInt 0x80000000#32 ∧ fInt 0x3F800000#32 ≤ 2 ^ 149 := by
  decide +kernel

/-- Finite and overflowing products and quotients of the largest finite value, with divisors of both signs. -/
theorem witness_ProductAndQuotientAreRoundedToNearestEven :
    fFinite (fmul 0x7F7FFFFF#32 0x00000001#32) = true ∧ fInt 0x00000001#32 ≠ 0 ∧
    fFinite (fdiv 0x00000001#32 0x7F7FFFFF#32) = true ∧ fInt 0x7F7FFFFF#32 ≠ 0 ∧
    |fInt 0x7F7FFFFF#32 * fInt 0x3F800000#32| < overflowBound * 2 ^ 149 ∧
    overflowBound * 2 ^ 149 ≤ |fInt 0x7F7FFFFF#32 * fInt 0x3F800001#32| ∧
    |fInt 0x7F7FFFFF#32| * 2 ^ 149 < overflowBound * |fInt 0xBF800000#32| ∧
    overflowBound * |fInt 0xBF7FFFFF#32| ≤ |fInt 0x7F7FFFFF#32| * 2 ^ 149 := by decide +kernel

theorem witness_TickIsTheHandSequence :
    (rigWith (playing .attack)).numVoices ≤ 64 ∧
    (∀ x ∈ (rigWith (playing .attack)).voices, x.active = true → x.bound = true) ∧
    (rigWith (playing .attack)).modAnswers = lfo :: [] ∧
    { rigWith (playing .attack) with modAnswers := [] }.modAnswers = [] := by decide +kernel

theorem witness_TickLeavesInactiveVoices :
    (∃ t, exec .tick (rigWith { voice with dirty := true }) = .next t) ∧
    ((rigWith { voice with dirty := true }).voice 0).active = false := ⟨goes_on (by decide +kernel), by decide +kernel⟩

/-- A table whose descriptor 0 is malformed: it has two capabilities. -/
def badTable : State :=
  { State.reset with
    table := { w0 := 0x000600FF#32, w1 := 0x00000104#32 } :: List.replicate 15 Descriptor.terminator }

/-- An empty table, a malformed descriptor 0, and one well-formed descriptor. -/
theorem witness_BeginOnABadTable :
    State.reset.begun = false ∧ State.reset.TableLength 0 ∧ badTable.begun = false ∧ badTable.TableLength 1 ∧
    ¬(badTable.descriptor 0).WellFormed := by
  refine ⟨rfl, ⟨by decide, fun j hj => absurd hj (Nat.not_lt_zero j), .inr ⟨by decide +kernel, by decide +kernel⟩⟩,
    rfl, ⟨by decide, ?_, .inr ⟨by decide +kernel, by decide +kernel⟩⟩,
    fun h => absurd h.oneCount (by decide +kernel)⟩
  intro j hj
  interval_cases j
  exact fun (h : _ ∧ _) => absurd h.2 (by decide +kernel)

theorem witness_BeginBuildsAtMostOnce :
    rig.begun = true ∧ badTable.begun = false ∧ badTable.TableLength 1 ∧
    (0 < 1 ∧ ¬(badTable.descriptor 0).WellFormed) ∧ State.reset.TableLength 0 :=
  have w := witness_BeginOnABadTable
  ⟨rfl, rfl, w.2.2.2.1, ⟨by decide, w.2.2.2.2⟩, w.2.1⟩

theorem witness_BeginBuildsTheTables :
    configured.begun = false ∧ configured.TableLength 1 ∧
    ∀ j, j < 1 → (configured.descriptor j).WellFormed := by
  refine ⟨rfl, ⟨by decide, ?_, .inr ⟨by decide +kernel, by decide +kernel⟩⟩, ?_⟩
  · intro j hj
    interval_cases j
    exact fun (h : _ ∧ _) => absurd h.2 (by decide +kernel)
  · intro j hj
    interval_cases j
    exact ⟨by decide +kernel, by decide +kernel, by decide +kernel, by decide +kernel,
      by decide +kernel, by decide +kernel⟩

theorem witness_BeginBringsUpAHealthyBus :
    configured.begun = false ∧ (configTable configured.table).isEmpty = false ∧
    (match buildBoards 0 (configTable configured.table) with
      | .ok boards => decide (boards = [{ dac with valid := false }])
      | .error _ => false) = true ∧
    AnswersOk ((beginOk configured.params [{ dac with valid := false }]).countP Event.isTxn) configured :=
  ⟨rfl, by decide +kernel, by decide +kernel, by decide +kernel, by decide +kernel⟩

/-- The last analog output 3, the first digital one 4, and the first handle of neither table. -/
theorem witness_SetaoAndSetdoBufferTheValue :
    (3 < rig.numDevices ∧ (rig.device 3).kind = .ao ∧ (rig.board (rig.device 3).board.toNat).valid = true) ∧
    (4 < rig.numDevices ∧ (rig.device 4).kind = .do_ ∧ (rig.board (rig.device 4).board.toNat).valid = true) ∧
    ({ rig with boards := [{ dac with valid := false }, { gpio with valid := false }] }.board 1).valid = false ∧
    ¬(16 < rig.numDevices) := by decide +kernel

theorem witness_FlushSendsOneFramePerDirtyBoard :
    AnswersOk ((pending.boards.flatMap (flushOk pending.params pending.freeIndex)).countP Event.isTxn) pending ∧
    (pending.boards.flatMap (flushOk pending.params pending.freeIndex)).countP Event.isTxn = 1 :=
  ⟨⟨by decide +kernel, by decide +kernel⟩, by decide +kernel⟩

theorem witness_FlushIsolatesFailures :
    (∃ t, exec .flush pending = .next t) ∧ 0 < pending.numBoards ∧ (pending.board 0).cluster = none ∧
    (pending.board 0).valid = true ∧ (pending.board 0).dirty ≠ 0#16 ∧ (pending.board 0).family ≠ .adc ∧
    3 * pending.numBoards ≤ pending.busAnswers.length :=
  ⟨goes_on (by decide +kernel), by decide +kernel, by decide +kernel, by decide +kernel, by decide +kernel,
    by decide +kernel, by decide +kernel⟩

/-- Parameters that depart from every default of a frame: a command byte, a channel byte, a reversed wire
order of two channels. -/
def wired : Params :=
  { Params.default with
    framePrefix := [(.dacFull, [0x30#8])]
    chanByte := [((.dacSel, 3#4), 0x13#8)]
    wirePerm := [((.dacFull, 2#5), [3, 2, 1, 0])] }

theorem witness_WireFramesCarryTheChannels :
    Params.default.framePrefix = [] ∧ Params.default.chanByte = [] ∧ Params.default.wirePerm = [] ∧
    wired.framePrefix = (.dacFull, [0x30#8]) :: [] ∧ wired.chanByte = ((.dacSel, 3#4), 0x13#8) :: [] ∧
    wired.wirePerm = ((.dacFull, 2#5), [3, 2, 1, 0]) :: [] ∧
    dac.family = .dacSel ∧ 3 < dac.nch.toNat ∧ { dac with dirty := 8#16 }.dirty.getLsbD 3 = true ∧
    { dac with family := .dacFull }.family = .dacFull ∧ (wirePerm wired .dacFull 2#5).getD 3 0 = 2 * 0 ∧
    (wirePerm wired .dacFull 2#5).getD 2 0 = 2 * 0 + 1 ∧ gpio.family = .gpio ∧
    0 < (gpio.nch.toNat + 7) / 8 := by decide +kernel

/-- The ADC board behind cluster 2, its conversion awaited, with the bus's answers to come. -/
def adcBehind (as : List BusAnswer) : State :=
  { awaited with
    boards := [dac, gpio, { adc with cluster := some 2#3, slice := 3#3 }]
    busAnswers := as }

/-- A status word that says not busy. -/
def notBusy : BusAnswer := { good with first := 0x85#8, second := 0x83#8 }

theorem witness_StartconvRemembersTheDevice :
    rig.params.adcConfig = [] ∧ 15 < rig.numDevices ∧ (rig.device 15).kind = .ai ∧
    (rig.board (rig.device 15).board.toNat).valid = true ∧
    AnswersOk (2 * segCount (rig.board (rig.device 15).board.toNat) + 1) rig ∧
    (rig.board (rig.device 15).board.toNat).cluster = none ∧ nack.status ≠ .ok ∧
    ({ rig with boards := [dac, gpio, { adc with valid := false }] }.board 2).valid = false ∧
    ¬((rig.device 0).kind = .ai) ∧
    2 * segCount ((adcBehind [nack, good, good]).board 2) + 1 ≤ (adcBehind [nack, good, good]).busAnswers.length ∧
    (boardRun Params.default ((adcBehind []).board 2) .write [] [good, good, nack]).status = .ok ∧
    (boardRun Params.default ((adcBehind []).board 2) .write [] [nack, good, good]).status ≠ .ok ∧
    (boardRun Params.default ((adcBehind []).board 2) .write [] [good, nack, good]).status ≠ .ok := by
  refine ⟨rfl, ?_, ?_, ?_, ⟨?_, ?_⟩, ?_, ?_, ?_, ?_, ?_, ?_, ?_, ?_⟩ <;> decide +kernel

theorem witness_PollDeliversACompletedConversion :
    let bd := awaited.board (awaited.device awaited.awaitDev.toNat).board.toNat
    State.reset.awaiting = false ∧ awaited.awaiting = true ∧ bd.valid = true ∧ bd.cluster = none ∧
    AnswersOk (4 * segCount bd + 4) awaited ∧
    adcNotBusy awaited.params 0x8583#16 = true ∧ adcNotBusy awaited.params 0x7FFF#16 = false ∧
    { awaited with busAnswers := [nack, good] }.busAnswers = nack :: good :: [] ∧
    { awaited with busAnswers := [good, nack] }.busAnswers = good :: nack :: [] ∧ nack.status ≠ .ok ∧
    ({ awaited with boards := [dac, gpio, { adc with valid := false }] }.board 2).valid = false := by
  refine ⟨rfl, rfl, ?_, ?_, ⟨?_, ?_⟩, ?_, ?_, rfl, rfl, ?_, ?_⟩ <;> decide +kernel

/-- Behind a multiplexer: a failed select, a failed second read, and a success whose last deselect fails. -/
theorem witness_PollDeliversACompletedConversion_behind :
    let bd := (adcBehind []).board 2
    let first (as : List BusAnswer) := adcRun Params.default bd 0x01#8 as
    let second (as : List BusAnswer) := adcRun Params.default bd 0x00#8 (first as).rest
    let lost := [good, good, notBusy, good, good, nack, good, good]
    let late := [good, good, notBusy, good, good, good, good, nack]
    (adcBehind lost).awaiting = true ∧ bd.valid = true ∧ 4 * segCount bd + 4 ≤ (adcBehind lost).busAnswers.length ∧
    (first (nack :: lost)).status ≠ .ok ∧
    (first lost).status = .ok ∧ adcNotBusy Params.default (first lost).word = true ∧ (second lost).status ≠ .ok ∧
    (first late).status = .ok ∧ adcNotBusy Params.default (first late).word = true ∧ (second late).status = .ok := by
  decide +kernel

theorem witness_ValidateSetsValidity :
    (2#8).toNat < rig.numBoards ∧ AnswersOk (2 * segCount (rig.board 2) + 1) rig ∧
    (rig.board 2).cluster = none ∧ { rig with busAnswers := [nack] }.busAnswers = nack :: [] ∧
    nack.status ≠ .ok ∧ AnswersOk (2 * segCount (behind.board 0) + 1) behind ∧
    2 * segCount (behind.board 0) + 1 ≤ behind.busAnswers.length ∧
    (boardRun Params.default (behind.board 0) .probe [] [good, good, nack]).status = .ok ∧
    (boardRun Params.default (behind.board 0) .probe [] [nack, good, good]).status ≠ .ok := by
  refine ⟨?_, ⟨?_, ?_⟩, ?_, rfl, ?_, ⟨?_, ?_⟩, ?_, ?_, ?_⟩ <;> decide +kernel

theorem witness_SegmentIsDeselectedOnEveryPath :
    (0#8).toNat < behind.numBoards ∧ (behind.board 0).cluster = some 2#3 ∧
    { behind with busAnswers := [nack, good, good] }.busAnswers = nack :: good :: good :: [] := by
  decide +kernel

theorem witness_ResetboardClearsTheBuffer :
    (0#8).toNat < behind.numBoards ∧
    AnswersOk ((bracketOk behind.params (behind.board 0) .probe [] ++ initOk behind.params (behind.board 0)).countP
      Event.isTxn) behind ∧
    3 + 3 * (initSeq behind.params (behind.board 0).family (behind.board 0).nch).length ≤ behind.busAnswers.length ∧
    (boardRun behind.params (behind.board 0) .probe [] behind.busAnswers).status = .ok ∧
    (boardRun behind.params (behind.board 0) .probe [] [good, nack, good]).status ≠ .ok :=
  ⟨by decide +kernel, ⟨by decide +kernel, by decide +kernel⟩, by decide +kernel, by decide +kernel,
    by decide +kernel⟩

theorem witness_NopDoesNothing : cmdOpc 0x0000FFFF#32 = 0x00#8 ∧ 0x0000FFFF#32 ≠ 0#32 := by decide

/-- A rig whose next access is PROCESS of an active voice, or POLL of an awaited conversion. -/
def processing : State := { rigWith (playing .attack) with frames := [0x8000000804000000#64] }
def polling : State := { awaited with frames := [0x8000000815000000#64] }

theorem witness_EveryStepKeepsTheGroupCounters :
    CountInv processing ∧ (∃ t, step processing = .next t) := by
  refine ⟨⟨by decide +kernel, by decide +kernel, by decide +kernel, ?_⟩, goes_on (by decide +kernel)⟩
  intro g hg
  have h : g < 1 := hg
  interval_cases g
  decide +kernel

theorem witness_EveryStepKeepsTheLevels :
    LevelInv processing ∧ (∃ t, step processing = .next t) := by
  refine ⟨⟨by decide +kernel, by decide +kernel, by decide +kernel, by decide +kernel, by decide +kernel, ?_⟩,
    goes_on (by decide +kernel)⟩
  intro v hv
  have e : v = playing .attack := List.mem_singleton.1 hv
  subst e
  constructor <;> decide +kernel

theorem no_dirty_channel (bd : Board) (h : bd.dirty = 0#16) (ch : Nat) (hc : bd.dirty.getLsbD ch = true) :
    ch < bd.nch.toNat := by
  rw [h, BitVec.getLsbD_zero] at hc
  cases hc

theorem dac_sound : dac.Sound :=
  ⟨by decide, by decide, by decide, by decide, no_dirty_channel dac rfl, fun _ => ⟨rfl, fun _ hx => List.eq_of_mem_replicate hx⟩,
    fun _ _ hx => (List.eq_of_mem_replicate hx) ▸ Nat.zero_le 1⟩

theorem gpio_sound : gpio.Sound :=
  ⟨by decide, by decide, by decide, by decide, no_dirty_channel gpio rfl, fun _ => ⟨rfl, fun _ hx => List.eq_of_mem_replicate hx⟩,
    fun _ _ hx => (List.eq_of_mem_replicate hx) ▸ Nat.zero_le 1⟩

theorem adc_sound : adc.Sound :=
  ⟨by decide, by decide, by decide, by decide, no_dirty_channel adc rfl, fun _ => ⟨rfl, fun _ hx => List.eq_of_mem_replicate hx⟩,
    fun _ _ hx => (List.eq_of_mem_replicate hx) ▸ Nat.zero_le 1⟩

theorem witness_EveryStepKeepsTheTables :
    TableInv polling ∧ (∃ t, step polling = .next t) := by
  refine ⟨⟨by decide +kernel, by decide +kernel, ?_, by decide +kernel, by decide +kernel, by decide +kernel⟩,
    goes_on (by decide +kernel)⟩
  intro bd hbd
  have e : bd = dac ∨ bd = gpio ∨ bd = adc := by simpa [polling, awaited, rig] using hbd
  rcases e with rfl | rfl | rfl
  exacts [dac_sound, gpio_sound, adc_sound]

theorem witness_EveryStepFollowsTheEnvelope :
    CountInv processing ∧ (∃ t, step processing = .next t) := witness_EveryStepKeepsTheGroupCounters

theorem witness_TraceOnlyGrows : ∃ t, step polling = .next t := goes_on (by decide +kernel)

theorem witness_SampleComesOnlyFromPoll :
    ∃ t, step polling = .next t ∧ (t.trace.drop polling.trace.length).any Event.isSample = true :=
  goes_next (by decide +kernel)

theorem witness_IdentityIsFixedForGood :
    (∃ t, step processing = .next t) ∧ processing.begun = true ∧ (processing.voice 0).bound = true :=
  ⟨goes_on (by decide +kernel), by decide +kernel, by decide +kernel⟩

end Sys2Proof.Tests
end

section
/-! A step (00_scope.md R3, 20_memory.md R110). -/

namespace Sys2Proof.Machine

/-- With no access pending there is none to take. -/
theorem takeFrame_nil {s : State} (h : s.frames = []) : s.takeFrame = none := by
  rw [State.takeFrame, h]

/-- The next access is the first of those pending. -/
theorem takeFrame_cons {s : State} {f : Frame} {rest : List Frame} (h : s.frames = f :: rest) :
    s.takeFrame = some (f, { s with frames := rest }) := by
  rw [State.takeFrame, h]

/-- An idle block does not change (60_exceptions.md R390). -/
theorem step_of_idle {s : State} (h : s.frames = []) : step s = .next s := by
  rw [step, takeFrame_nil h]

/-- A step runs the instruction the next access decodes to (30_encoding.md R141). -/
theorem step_of_decoded {s : State} {f : Frame} {rest : List Frame} {i : Instr} (h : s.frames = f :: rest)
    (hi : decodeFrame f = .ok i) : step s = exec i { s with frames := rest } := by
  simp only [step, takeFrame_cons h, hi]

/-- A malformed access is rejected (30_encoding.md R142). -/
theorem step_of_malformed {s : State} {f : Frame} {rest : List Frame} {e} (h : s.frames = f :: rest)
    (he : decodeFrame f = .error e) : step s = .next (State.rejectFrame f { s with frames := rest }) := by
  simp only [step, takeFrame_cons h, he]

/-- Settles O5: the step of an idle block and the step of a decoded access. -/
theorem stepRunsTheNextHostAccess : Obligations.StepRunsTheNextHostAccess :=
  fun _ => ⟨step_of_idle, fun _ _ _ => step_of_decoded⟩

end Sys2Proof.Machine
end

section
/-! Rounding to binary32 (00_scope.md R10), on magnitudes. The magnitude bits m stand for `magUnits m` whole
units of 2^-149, a strictly increasing sequence, and every magnitude from a binade on is a multiple of that
binade's unit. So the nearest whole number of those units is the nearest magnitude. -/

namespace Sys2Proof.Machine

/-- The magnitude bits of an infinity. -/
abbrev infMag : ℕ := 0x7F800000

/-- The binade of magnitude bits: the subnormals share binade 0 with the smallest normals. -/
def magBinade (m : ℕ) : ℕ := m / 2 ^ 23 - 1

/-- The units of 2^-149 that magnitude bits stand for (`fUnits_eq`), continued beyond the finite values:
those of an infinity stand for 2^277. -/
def magUnits (m : ℕ) : ℕ := (m - magBinade m * 2 ^ 23) * 2 ^ magBinade m

/-- Magnitude bits built of a significand that lies in its binade or is the first of the next one. -/
theorem magUnits_add {k R : ℕ} (hlow : 2 ^ 23 ≤ R ∨ k = 0) (hhigh : R ≤ 2 ^ 24) :
    magUnits (R + k * 2 ^ 23) = R * 2 ^ k := by
  rcases hhigh.eq_or_lt with rfl | hR
  · have hb : magBinade (2 ^ 24 + k * 2 ^ 23) = k + 1 := by unfold magBinade; omega
    have hs : 2 ^ 24 + k * 2 ^ 23 - (k + 1) * 2 ^ 23 = 2 ^ 23 := by omega
    rw [magUnits, hb, hs, pow_succ]
    ring
  · have hb : magBinade (R + k * 2 ^ 23) = k := by unfold magBinade; omega
    rw [magUnits, hb, Nat.add_sub_cancel]

/-- Consecutive magnitudes are one unit of their binade apart. -/
theorem magUnits_succ (m : ℕ) : magUnits (m + 1) = magUnits m + 2 ^ magBinade m := by
  have hm : m = (m - magBinade m * 2 ^ 23) + magBinade m * 2 ^ 23 := by unfold magBinade; omega
  have hnext : magUnits (m - magBinade m * 2 ^ 23 + 1 + magBinade m * 2 ^ 23)
      = (m - magBinade m * 2 ^ 23 + 1) * 2 ^ magBinade m :=
    magUnits_add (by unfold magBinade; omega) (by unfold magBinade; omega)
  rw [show m + 1 = m - magBinade m * 2 ^ 23 + 1 + magBinade m * 2 ^ 23 by omega, hnext, magUnits]
  ring

/-- Magnitudes are ordered as their bits are. -/
theorem magUnits_strictMono : StrictMono magUnits :=
  strictMono_nat_of_lt_succ fun m => by
    rw [magUnits_succ]
    exact Nat.lt_add_of_pos_right (by positivity)

@[simp] theorem magUnits_zero : magUnits 0 = 0 := by decide

/-- An infinity's magnitude bits stand for 2^277. -/
theorem magUnits_infMag : magUnits infMag = 2 ^ 25 * 2 ^ 252 :=
  (magUnits_add (k := 253) (R := 2 ^ 24) (.inl (by norm_num)) le_rfl).trans (by rw [← pow_add, ← pow_add])

/-- The largest finite magnitude is 2^277 - 2^253. -/
theorem magUnits_maxFinite : magUnits (infMag - 1) = (2 ^ 25 - 2) * 2 ^ 252 :=
  (magUnits_add (k := 253) (R := 2 ^ 24 - 1) (.inl (by norm_num)) (by norm_num)).trans (by ring)

/-- The overflow bound lies half way between the two. -/
theorem overflowBound_eq : overflowBound = (2 ^ 25 - 1) * 2 ^ 252 := by
  rw [overflowBound, show 277 = 25 + 252 from rfl, pow_add, sub_mul, one_mul]

/-- A magnitude is a multiple of a binade's unit, or lies below that binade. -/
theorem magUnits_multiple_or_below (c k : ℕ) :
    (∃ j, magUnits c = j * 2 ^ k) ∨ k ≠ 0 ∧ magUnits c < 2 ^ 23 * 2 ^ k := by
  rcases Nat.lt_or_ge (magBinade c) k with hk | hk
  · refine .inr ⟨by omega, ?_⟩
    have hsig : c - magBinade c * 2 ^ 23 < 2 ^ 24 := by unfold magBinade; omega
    calc magUnits c < 2 ^ 24 * 2 ^ magBinade c := Nat.mul_lt_mul_of_pos_right hsig (by positivity)
      _ = 2 ^ 23 * 2 ^ (magBinade c + 1) := by ring
      _ ≤ 2 ^ 23 * 2 ^ k := Nat.mul_le_mul_left _ (Nat.pow_le_pow_right (by norm_num) hk)
  · refine .inl ⟨(c - magBinade c * 2 ^ 23) * 2 ^ (magBinade c - k), ?_⟩
    rw [magUnits, mul_assoc, ← pow_add, Nat.sub_add_cancel hk]

/-- The two outcomes of `roundEven`: the quotient where the remainder is the smaller half, or a half at an
even quotient, and the next number otherwise. -/
theorem roundEven_cases (n : ℕ) {D : ℕ} (hD : 0 < D) :
    ∃ q r, n = q * D + r ∧ r < D ∧
      (roundEven n D = q ∧ (2 * r < D ∨ 2 * r = D ∧ q % 2 = 0) ∨
        roundEven n D = q + 1 ∧ (D < 2 * r ∨ 2 * r = D ∧ q % 2 = 1)) := by
  refine ⟨n / D, n % D, (Nat.div_add_mod' n D).symm, Nat.mod_lt n hD, ?_⟩
  simp only [roundEven]
  split <;> omega

/-- A multiple of D beside q * D: two of them bracket q * D + r, the others lie outside. -/
theorem multiple_beside (j q D : ℕ) :
    j * D + D ≤ q * D ∨ (j = q ∧ j * D = q * D) ∨ (j = q + 1 ∧ j * D = q * D + D) ∨ q * D + 2 * D ≤ j * D := by
  rcases lt_trichotomy j q with h | rfl | h
  · exact .inl (by nlinarith)
  · exact .inr (.inl ⟨rfl, rfl⟩)
  · rcases (Nat.succ_le_of_lt h).eq_or_lt with rfl | h
    · exact .inr (.inr (.inl ⟨rfl, Nat.succ_mul q D⟩))
    · exact .inr (.inr (.inr (by nlinarith)))

/-- `roundEven` answers a nearest whole number, and of two equally near the even one. -/
theorem roundEven_nearest (n : ℕ) {D : ℕ} (hD : 0 < D) (j : ℕ) :
    |(roundEven n D * D : ℤ) - n| ≤ |(j * D : ℤ) - n| ∧
      (|(roundEven n D * D : ℤ) - n| = |(j * D : ℤ) - n| → j ≠ roundEven n D → roundEven n D % 2 = 0) := by
  obtain ⟨q, r, rfl, hr, ⟨hR, half⟩ | ⟨hR, half⟩⟩ := roundEven_cases n hD
  · have hj := multiple_beside j q D
    rw [hR, Int.abs_eq_natAbs, Int.abs_eq_natAbs]
    omega
  · have hj := multiple_beside j q D
    have hq : (q + 1) * D = q * D + D := Nat.succ_mul q D
    rw [hR, Int.abs_eq_natAbs, Int.abs_eq_natAbs]
    omega

/-- m is a magnitude nearest to num / den units, and one with even bits where another is equally near. -/
def NearestEven (m num den : ℕ) : Prop :=
  ∀ c : ℕ, |(magUnits m * den : ℤ) - num| ≤ |(magUnits c * den : ℤ) - num| ∧
    (|(magUnits m * den : ℤ) - num| = |(magUnits c * den : ℤ) - num| → c ≠ m → m % 2 = 0)

/-- The distance of the value's binade from the smallest, as `roundMag` computes it. -/
def roundBinade (num den : ℕ) : ℕ := if num / den < 2 ^ 24 then 0 else (num / den).log2 - 23

/-- The bits of num / den units rounded once, with no bound on the exponent. -/
def roundUnbounded (num den : ℕ) : ℕ :=
  roundEven num (den <<< roundBinade num den) + roundBinade num den * 2 ^ 23

/-- `roundMag` is that, cut off at an infinity. -/
theorem roundMag_eq_min (num den : ℕ) : roundMag num den = min (roundUnbounded num den) infMag := rfl

/-- The value lies in the binade `roundBinade` names. -/
theorem roundBinade_bounds (num : ℕ) {den : ℕ} (hden : 0 < den) :
    (roundBinade num den ≠ 0 → 2 ^ 23 * (den <<< roundBinade num den) ≤ num) ∧
      num < 2 ^ 24 * (den <<< roundBinade num den) := by
  rw [Nat.shiftLeft_eq, roundBinade]
  split
  next hsmall => exact ⟨fun h => absurd rfl h, by simpa using (Nat.div_lt_iff_lt_mul hden).1 hsmall⟩
  next hlarge =>
    have hq : num / den ≠ 0 := by omega
    have hlog : 24 ≤ (num / den).log2 := (Nat.le_log2 hq).2 (by omega)
    have hlow : 2 ^ (num / den).log2 * den ≤ num :=
      (Nat.le_div_iff_mul_le hden).1 (Nat.log2_self_le hq)
    have hhigh : num < 2 ^ ((num / den).log2 + 1) * den :=
      (Nat.div_lt_iff_lt_mul hden).1 Nat.lt_log2_self
    obtain ⟨k, hk⟩ := Nat.exists_eq_add_of_le hlog
    rw [hk] at hlow hhigh ⊢
    rw [show 24 + k - 23 = k + 1 by omega]
    constructor
    · intro _
      calc 2 ^ 23 * (den * 2 ^ (k + 1)) = 2 ^ (24 + k) * den := by ring
        _ ≤ num := hlow
    · calc num < 2 ^ (24 + k + 1) * den := hhigh
        _ = 2 ^ 24 * (den * 2 ^ (k + 1)) := by ring

/-- `roundEven` stays within whole bounds of the exact value. -/
theorem roundEven_bounds {n D a b : ℕ} (hD : 0 < D) :
    (a * D ≤ n → a ≤ roundEven n D) ∧ (n < b * D → roundEven n D ≤ b) := by
  obtain ⟨q, r, rfl, hr, h⟩ := roundEven_cases n hD
  constructor
  · intro ha
    have : a < q + 1 := by nlinarith
    omega
  · intro hb
    have : q < b := by nlinarith
    omega

/-- The units that the rounded bits stand for. -/
theorem magUnits_roundUnbounded (num : ℕ) {den : ℕ} (hden : 0 < den) :
    magUnits (roundUnbounded num den) =
      roundEven num (den <<< roundBinade num den) * 2 ^ roundBinade num den := by
  obtain ⟨hlow, hhigh⟩ := roundBinade_bounds num hden
  have hD : 0 < den <<< roundBinade num den := by rw [Nat.shiftLeft_eq]; positivity
  refine magUnits_add ?_ ((roundEven_bounds hD (a := 0)).2 hhigh)
  by_cases hk : roundBinade num den = 0
  · exact .inr hk
  · exact .inl ((roundEven_bounds hD (b := 0)).1 (hlow hk))

/-- Rounding answers a nearest magnitude: a magnitude of the value's binade or above is a multiple of the
binade's unit, and one below it is farther away than the binade's first. -/
theorem nearestEven_roundUnbounded (num : ℕ) {den : ℕ} (hden : 0 < den) :
    NearestEven (roundUnbounded num den) num den := by
  intro c
  obtain ⟨hlow, -⟩ := roundBinade_bounds num hden
  have hunits := magUnits_roundUnbounded num hden
  have hmono := magUnits_strictMono.injective (a₁ := c) (a₂ := roundUnbounded num den)
  have hparity : roundUnbounded num den % 2 = roundEven num (den <<< roundBinade num den) % 2 := by
    unfold roundUnbounded
    omega
  have hD : 0 < den <<< roundBinade num den := by rw [Nat.shiftLeft_eq]; positivity
  have hnear := roundEven_nearest num hD
  have hscale (j : ℕ) : (((j * 2 ^ roundBinade num den : ℕ) : ℤ) * den) =
      j * (den <<< roundBinade num den : ℕ) := by
    rw [Nat.shiftLeft_eq]
    push_cast
    ring
  rw [hunits, hscale, hparity]
  rcases magUnits_multiple_or_below c (roundBinade num den) with ⟨j, hj⟩ | ⟨hk, hc⟩
  · rw [hj, hscale]
    refine ⟨(hnear j).1, fun htie hne => (hnear j).2 htie fun hjR => hne (hmono ?_)⟩
    rw [hunits, hj, hjR]
  · have hfirst := (hnear (2 ^ 23)).1
    have hbelow : magUnits c * den < 2 ^ 23 * (den <<< roundBinade num den) := by
      rw [Nat.shiftLeft_eq]
      nlinarith
    have hfar := hlow hk
    simp only [Int.abs_eq_natAbs] at hfirst ⊢
    omega

/-- Below the overflow bound a nearest magnitude is finite. -/
theorem NearestEven.lt_infMag {m num den : ℕ} (h : NearestEven m num den)
    (hlt : (num : ℤ) < overflowBound * den) : m < infMag := by
  by_contra hge
  have hunits : magUnits infMag ≤ magUnits m := magUnits_strictMono.monotone (by omega)
  have hscaled := Nat.mul_le_mul_right den hunits
  have hmax := (h (infMag - 1)).1
  rw [magUnits_infMag] at hscaled
  rw [magUnits_maxFinite] at hmax
  rw [overflowBound_eq] at hlt
  simp only [Int.abs_eq_natAbs] at hmax
  omega

/-- From the overflow bound on a nearest magnitude is not finite: at the bound itself the largest finite
magnitude and 2^277 are equally near, and the former's last bit is 1. -/
theorem NearestEven.infMag_le {m num den : ℕ} (h : NearestEven m num den) (hden : 0 < den)
    (hge : overflowBound * den ≤ num) : infMag ≤ m := by
  by_contra hlt
  obtain ⟨hinf, htie⟩ := h infMag
  rw [magUnits_infMag] at hinf htie
  rw [overflowBound_eq] at hge
  rcases (show m ≤ infMag - 1 by omega).eq_or_lt with rfl | hm
  · have hodd : ¬(infMag - 1) % 2 = 0 := by decide
    have hne := mt (htie · (by decide)) hodd
    rw [magUnits_maxFinite] at hinf hne
    simp only [Int.abs_eq_natAbs] at hinf hne
    omega
  · have hbelow := Nat.mul_lt_mul_of_pos_right (magUnits_strictMono hm) hden
    rw [magUnits_maxFinite] at hbelow
    simp only [Int.abs_eq_natAbs] at hinf
    omega

end Sys2Proof.Machine
end
section
/-! binary32 words by their sign and magnitude bits (00_scope.md R10). -/

namespace Sys2Proof.Machine

/-- The magnitude bits are the fraction and the exponent. -/
theorem fMag_eq_fields (w : F32) : fMag w = (fFrac w).toNat + (fExp w).toNat * 2 ^ 23 := by
  simp only [fMag, fFrac, fExp, BitVec.extractLsb'_toNat, Nat.shiftRight_eq_div_pow]
  omega

/-- There are 31 magnitude bits. -/
theorem fMag_lt (w : F32) : fMag w < 2 ^ 31 := Nat.mod_lt _ (by norm_num)

/-- The finite values lie below the infinities (40_host_access.md R184). -/
theorem fFinite_iff (w : F32) : fFinite w = true ↔ fMag w < infMag := by
  have hexp := (fExp w).isLt
  have hfrac := (fFrac w).isLt
  rw [fFinite, bne_iff_ne, ne_eq, ← BitVec.toNat_inj, BitVec.toNat_ofNat, fMag_eq_fields, infMag]
  omega

/-- The NaNs lie above the infinities. -/
theorem fNaN_iff (w : F32) : fNaN w = true ↔ infMag < fMag w := by
  have hexp := (fExp w).isLt
  have hfrac := (fFrac w).isLt
  rw [fNaN, Bool.and_eq_true, beq_iff_eq, bne_iff_ne, ne_eq, ← BitVec.toNat_inj, ← BitVec.toNat_inj,
    BitVec.toNat_ofNat, BitVec.toNat_ofNat, fMag_eq_fields, infMag]
  omega

/-- Both infinities have the same magnitude bits. -/
theorem fInf_iff (w : F32) : fInf w = true ↔ fMag w = infMag := by
  have hexp := (fExp w).isLt
  have hfrac := (fFrac w).isLt
  rw [fInf, Bool.and_eq_true, beq_iff_eq, beq_iff_eq, ← BitVec.toNat_inj, ← BitVec.toNat_inj,
    BitVec.toNat_ofNat, BitVec.toNat_ofNat, fMag_eq_fields, infMag]
  omega

/-- A finite value is no NaN. -/
theorem fNaN_of_finite {w : F32} (h : fFinite w = true) : fNaN w = false := by
  rw [Bool.eq_false_iff, ne_eq, fNaN_iff]
  have := (fFinite_iff w).1 h
  omega

/-- A finite value is no infinity. -/
theorem fInf_of_finite {w : F32} (h : fFinite w = true) : fInf w = false := by
  rw [Bool.eq_false_iff, ne_eq, fInf_iff]
  have := (fFinite_iff w).1 h
  omega

/-- The last bit of a value is that of its magnitude bits. -/
theorem getLsbD_zero_eq_false_iff (w : F32) : w.getLsbD 0 = false ↔ fMag w % 2 = 0 := by
  rw [BitVec.getLsbD, Nat.testBit_zero, decide_eq_false_iff_not, fMag]
  omega

/-- The units of a value are those of its magnitude bits. -/
theorem fUnits_eq (w : F32) : fUnits w = magUnits (fMag w) := by
  have hfrac := (fFrac w).isLt
  rw [fUnits, fMag_eq_fields]
  split
  next hsub => simp [hsub, magUnits, magBinade, Nat.div_eq_of_lt hfrac]
  next hnorm =>
    have hexp : (fExp w).toNat ≠ 0 := fun h => hnorm (BitVec.eq_of_toNat_eq h)
    rw [Nat.shiftLeft_eq, ← magUnits_add (.inl (Nat.le_add_left ..)) (by omega)]
    congr 1
    omega

@[simp] theorem fSign_withSign (neg : Bool) (mag : ℕ) : fSign (withSign neg mag) = neg := by
  simp only [fSign, withSign, BitVec.getLsbD_append]
  simp

/-- A sign beside 31 magnitude bits keeps them. -/
theorem fMag_withSign (neg : Bool) {mag : ℕ} (h : mag < 2 ^ 31) : fMag (withSign neg mag) = mag := by
  rw [fMag, withSign, BitVec.toNat_append, BitVec.toNat_ofNat, Nat.mod_eq_of_lt h,
    Nat.shiftLeft_eq, mul_comm, ← Nat.two_pow_add_eq_or_of_lt h, Nat.mul_add_mod, Nat.mod_eq_of_lt h]

/-- Turning the sign keeps the magnitude bits. -/
@[simp] theorem fMag_fNeg (w : F32) : fMag (fNeg w) = fMag w := by
  have hneg : fNeg w = withSign (!fSign w) (fMag w) := by
    rw [fNeg, withSign]
    congr 1
    refine BitVec.eq_of_toNat_eq ?_
    simp [fMag]
  rw [hneg, fMag_withSign _ (fMag_lt w)]

@[simp] theorem fSign_fNeg (w : F32) : fSign (fNeg w) = !fSign w := by
  simp only [fSign, fNeg, BitVec.getLsbD_append]
  simp

/-- Turning the sign negates the value. -/
theorem fInt_fNeg (w : F32) : fInt (fNeg w) = -fInt w := by
  simp only [fInt, fUnits_eq, fSign_fNeg, fMag_fNeg]
  cases fSign w <;> simp

theorem fFinite_fNeg (w : F32) : fFinite (fNeg w) = fFinite w := by
  rw [Bool.eq_iff_iff, fFinite_iff, fFinite_iff, fMag_fNeg]

/-- A value's distance from zero. -/
theorem natAbs_fInt (w : F32) : (fInt w).natAbs = fUnits w := by
  rw [fInt]
  split <;> simp

end Sys2Proof.Machine
end

section
/-! The comparisons (00_scope.md R10): `fKey` orders the values as their units do. -/

namespace Sys2Proof.Machine

/-- The signed units at a place of the order. -/
def keyUnits (k : ℤ) : ℤ := k.sign * magUnits k.natAbs

theorem keyUnits_neg (k : ℤ) : keyUnits (-k) = -keyUnits k := by
  rw [keyUnits, keyUnits, Int.sign_neg, Int.natAbs_neg, neg_mul]

theorem keyUnits_natCast (n : ℕ) : keyUnits n = magUnits n := by
  rcases n.eq_zero_or_pos with rfl | hn
  · simp [keyUnits]
  · rw [keyUnits, Int.sign_natCast_of_ne_zero hn.ne', one_mul, Int.natAbs_natCast]

/-- A value's units are those of its place in the order. -/
theorem fInt_eq_keyUnits (w : F32) : fInt w = keyUnits (fKey w) := by
  rw [fInt, fKey, fUnits_eq, ← keyUnits_natCast, ← keyUnits_neg, apply_ite keyUnits]

/-- The units follow the order: they are odd in the place, and increase with the magnitude. -/
theorem keyUnits_strictMono : StrictMono keyUnits := by
  refine strictMono_of_odd_strictMonoOn_nonneg keyUnits_neg fun j hj k hk hjk => ?_
  lift j to ℕ using hj
  lift k to ℕ using hk
  rw [keyUnits_natCast, keyUnits_natCast]
  exact_mod_cast magUnits_strictMono (by exact_mod_cast hjk)

/-- Two values are ordered as their units are. -/
theorem fKey_lt_iff (a b : F32) : fKey a < fKey b ↔ fInt a < fInt b := by
  rw [fInt_eq_keyUnits, fInt_eq_keyUnits, keyUnits_strictMono.lt_iff_lt]

theorem fKey_le_iff (a b : F32) : fKey a ≤ fKey b ↔ fInt a ≤ fInt b := by
  rw [fInt_eq_keyUnits, fInt_eq_keyUnits, keyUnits_strictMono.le_iff_le]

theorem fKey_eq_iff (a b : F32) : fKey a = fKey b ↔ fInt a = fInt b := by
  rw [fInt_eq_keyUnits, fInt_eq_keyUnits, keyUnits_strictMono.injective.eq_iff]

/-- Values that are not NaN are compared. -/
theorem fOrdered_of_not_nan {a b : F32} (ha : fNaN a = false) (hb : fNaN b = false) :
    fOrdered a b = true := by
  rw [fOrdered, ha, hb]; rfl

theorem flt_iff {a b : F32} (h : fOrdered a b = true) : flt a b = true ↔ fInt a < fInt b := by
  rw [flt, h, Bool.true_and, decide_eq_true_iff, fKey_lt_iff]

theorem fle_iff {a b : F32} (h : fOrdered a b = true) : fle a b = true ↔ fInt a ≤ fInt b := by
  rw [fle, h, Bool.true_and, decide_eq_true_iff, fKey_le_iff]

theorem fgt_iff {a b : F32} (h : fOrdered a b = true) : fgt a b = true ↔ fInt b < fInt a := by
  rw [fgt, h, Bool.true_and, decide_eq_true_iff, fKey_lt_iff]

theorem fge_iff {a b : F32} (h : fOrdered a b = true) : fge a b = true ↔ fInt b ≤ fInt a := by
  rw [fge, h, Bool.true_and, decide_eq_true_iff, fKey_le_iff]

theorem feq_iff {a b : F32} (h : fOrdered a b = true) : feq a b = true ↔ fInt a = fInt b := by
  rw [feq, h, Bool.true_and, decide_eq_true_iff, fKey_eq_iff]

theorem fne_iff {a b : F32} (h : fOrdered a b = true) : fne a b = true ↔ fInt a ≠ fInt b := by
  rw [fne, Bool.not_eq_true', ← Bool.not_eq_true, feq_iff h]

/-- With a NaN no comparison but fne is true. -/
theorem compare_of_nan {a b : F32} (h : fNaN a = true ∨ fNaN b = true) :
    flt a b = false ∧ fle a b = false ∧ fgt a b = false ∧ fge a b = false ∧ feq a b = false ∧
      fne a b = true := by
  have hord : fOrdered a b = false := by rcases h with h | h <;> simp [fOrdered, h]
  simp [flt, fle, fgt, fge, feq, fne, hord]

@[simp] theorem fInt_fZero : fInt fZero = 0 := by decide
@[simp] theorem fInt_fOne : fInt fOne = 2 ^ 149 := by decide +kernel

/-- Below 0.0 clamp01 answers 0.0. -/
theorem clamp01_of_neg {x : F32} (hx : fNaN x = false) (h : fInt x < 0) : clamp01 x = fZero := by
  rw [clamp01, if_pos ((flt_iff (fOrdered_of_not_nan hx (by decide))).2 (fInt_fZero.symm ▸ h))]

/-- Above 1.0 clamp01 answers 1.0. -/
theorem clamp01_of_one_lt {x : F32} (hx : fNaN x = false) (h : 2 ^ 149 < fInt x) : clamp01 x = fOne := by
  have hlow : ¬flt x fZero = true := by
    rw [flt_iff (fOrdered_of_not_nan hx (by decide)), fInt_fZero]
    omega
  rw [clamp01, if_neg hlow, if_pos ((fgt_iff (fOrdered_of_not_nan hx (by decide))).2 (fInt_fOne.symm ▸ h))]

/-- A level in [0, 1], and a NaN, pass clamp01 unchanged. -/
theorem clamp01_of_level {x : F32} (h : fNaN x = true ∨ (0 ≤ fInt x ∧ fInt x ≤ 2 ^ 149)) :
    clamp01 x = x := by
  have hin : ¬flt x fZero = true ∧ ¬fgt x fOne = true := by
    by_cases hx : fNaN x = true
    · obtain ⟨hlt, -, -⟩ := compare_of_nan (b := fZero) (.inl hx)
      obtain ⟨-, -, hgt, -⟩ := compare_of_nan (b := fOne) (.inl hx)
      exact ⟨Bool.eq_false_iff.1 hlt, Bool.eq_false_iff.1 hgt⟩
    · obtain ⟨h0, h1⟩ := h.resolve_left hx
      have hx' := Bool.eq_false_iff.2 hx
      rw [flt_iff (fOrdered_of_not_nan hx' (by decide)), fgt_iff (fOrdered_of_not_nan hx' (by decide)),
        fInt_fZero, fInt_fOne]
      exact ⟨h0.not_gt, h1.not_gt⟩
  rw [clamp01, if_neg hin.1, if_neg hin.2]

end Sys2Proof.Machine
end

section
/-! The primitives fadd, fsub, fmul and fdiv (00_scope.md R10): each answers `withSign neg (roundMag num den)`,
the signed exact value rounded once. -/

namespace Sys2Proof.Machine

/-- w is the exact value X / den units rounded to nearest, ties to even: an infinity of its sign from the
overflow bound on. -/
structure RoundsTo (w : F32) (X : ℤ) (den : ℕ) : Prop where
  nearest : fFinite w = true → ∀ c : F32,
    |fInt w * den - X| ≤ |fInt c * den - X| ∧
      (|fInt w * den - X| = |fInt c * den - X| → fInt c ≠ fInt w → w.getLsbD 0 = false)
  finite : |X| < overflowBound * den → fFinite w = true
  overflow : overflowBound * den ≤ |X| → w = infinityOf X

/-- Rounded magnitude bits leave bit 31 to the sign. -/
theorem roundMag_lt (num den : ℕ) : roundMag num den < 2 ^ 31 := by
  rw [roundMag_eq_min, infMag]
  omega

/-- A magnitude nearest to num / den is a nearest signed value too: zero is nearer than any value of the
other sign. -/
theorem NearestEven.signed {m num den : ℕ} (h : NearestEven m num den) (hden : 0 < den) {u : ℤ} {c : ℕ}
    (hu : u.natAbs = magUnits c) :
    |(magUnits m * den : ℤ) - num| ≤ |u * den - num| ∧
      (|(magUnits m * den : ℤ) - num| = |u * den - num| → u ≠ magUnits m → m % 2 = 0) := by
  rcases lt_or_ge u 0 with hneg | hpos
  · obtain ⟨hzero, -⟩ := h 0
    have hprod : u * den < 0 := mul_neg_of_neg_of_pos hneg (by exact_mod_cast hden)
    rw [magUnits_zero, Nat.cast_zero, zero_mul] at hzero
    simp only [Int.abs_eq_natAbs] at hzero ⊢
    omega
  · obtain rfl : u = magUnits c := by omega
    exact ⟨(h c).1, fun htie hne => (h c).2 htie fun hcm => hne (by rw [hcm])⟩

/-- The value of magnitude bits with a sign. -/
theorem fInt_withSign (neg : Bool) {mag : ℕ} (h : mag < 2 ^ 31) :
    fInt (withSign neg mag) = if neg then -(magUnits mag : ℤ) else magUnits mag := by
  rw [fInt, fSign_withSign, fUnits_eq, fMag_withSign neg h]

/-- Negated values are as far apart. -/
theorem abs_neg_mul_sub_neg (u d x : ℤ) : |-u * d - -x| = |u * d - x| := by
  rw [neg_mul, neg_sub_neg, abs_sub_comm]

/-- Rounding the exact magnitude and setting the exact sign rounds the exact value. -/
theorem roundsTo_withSign {neg : Bool} {num den : ℕ} {X : ℤ} (hden : 0 < den)
    (hX : X = if neg then -(num : ℤ) else num) : RoundsTo (withSign neg (roundMag num den)) X den := by
  have hmag := roundMag_lt num den
  have hround := nearestEven_roundUnbounded num hden
  have habs : |X| = num := by rw [hX]; split <;> simp
  have hmin := roundMag_eq_min num den
  refine ⟨fun hfin c => ?_, fun hlt => ?_, fun hge => ?_⟩
  · rw [fFinite_iff, fMag_withSign neg hmag] at hfin
    obtain hm : roundMag num den = roundUnbounded num den := by omega
    rw [← hm] at hround
    rw [getLsbD_zero_eq_false_iff, fInt_withSign neg hmag, fMag_withSign neg hmag, hX]
    have hc : (fInt c).natAbs = magUnits (fMag c) := (natAbs_fInt c).trans (fUnits_eq c)
    cases neg
    · exact hround.signed hden hc
    · obtain ⟨u, hu⟩ : ∃ u, fInt c = -u := ⟨-fInt c, (neg_neg _).symm⟩
      rw [hu, Int.natAbs_neg] at hc
      rw [hu, if_pos rfl, if_pos rfl, abs_neg_mul_sub_neg, abs_neg_mul_sub_neg, ne_eq, neg_inj]
      exact hround.signed hden hc
  · rw [habs] at hlt
    have := hround.lt_infMag hlt
    rw [fFinite_iff, fMag_withSign neg hmag]
    omega
  · rw [habs] at hge
    have := hround.infMag_le hden hge
    have hinf : roundMag num den = infMag := by omega
    have hnum : (0 : ℤ) < num := lt_of_lt_of_le (by rw [overflowBound_eq]; positivity) hge
    rw [hinf, hX, infinityOf]
    cases neg
    · rw [if_neg (by simp)]
      decide
    · rw [if_pos (by simpa using hnum)]
      decide

/-- A rounded zero is a zero. -/
theorem roundMag_zero_one : roundMag 0 1 = 0 := by decide

/-- The sum of finite values is rounded once; the sign of a zero sum is free here. -/
theorem roundsTo_addNumbers {a b : F32} (ha : fFinite a = true) (hb : fFinite b = true) (op : Config.ArithOp)
    (x y : F32) : RoundsTo (addNumbers op x y a b) (fInt a + fInt b) 1 := by
  rw [addNumbers, fInf_of_finite ha, fInf_of_finite hb]
  simp only [Bool.false_eq_true, if_false]
  split
  next hzero =>
    rw [← roundMag_zero_one]
    exact roundsTo_withSign one_pos (by simp [hzero])
  next =>
    refine roundsTo_withSign one_pos ?_
    simp only [decide_eq_true_eq]
    omega

/-- fadd rounds the exact sum. -/
theorem roundsTo_fadd {a b : F32} (ha : fFinite a = true) (hb : fFinite b = true) :
    RoundsTo (fadd a b) (fInt a + fInt b) 1 := by
  rw [fadd, fNaN_of_finite ha, fNaN_of_finite hb, Bool.or_self, if_neg Bool.false_ne_true]
  exact roundsTo_addNumbers ha hb ..

/-- fsub rounds the exact difference, as the sum with the negated operand. -/
theorem roundsTo_fsub {a b : F32} (ha : fFinite a = true) (hb : fFinite b = true) :
    RoundsTo (fsub a b) (fInt a - fInt b) 1 := by
  rw [fsub, fNaN_of_finite ha, fNaN_of_finite hb, Bool.or_self, if_neg Bool.false_ne_true, sub_eq_add_neg,
    ← fInt_fNeg]
  exact roundsTo_addNumbers ha ((fFinite_fNeg b).trans hb) ..

/-- The exact product in units of 2^-298, by its sign and magnitude. -/
theorem fInt_mul_fInt (a b : F32) :
    fInt a * fInt b =
      if fSign a != fSign b then -((fUnits a * fUnits b : ℕ) : ℤ) else (fUnits a * fUnits b : ℕ) := by
  rw [fInt, fInt]
  cases fSign a <;> cases fSign b <;> simp

/-- fmul rounds the exact product, a whole number of units of 2^-298. -/
theorem roundsTo_fmul {a b : F32} (ha : fFinite a = true) (hb : fFinite b = true) :
    RoundsTo (fmul a b) (fInt a * fInt b) (1 <<< 149) := by
  rw [fmul, fNaN_of_finite ha, fNaN_of_finite hb, fInf_of_finite ha, fInf_of_finite hb]
  exact roundsTo_withSign (by decide) (fInt_mul_fInt a b)

/-- A divisor that is not zero has a magnitude. -/
theorem fUnits_pos {b : F32} (h : fInt b ≠ 0) : 0 < fUnits b := by
  rw [← natAbs_fInt]
  exact Int.natAbs_pos.2 h

/-- A divisor that is not zero is not encoded as one. -/
theorem fMag_ne_zero {b : F32} (h : fInt b ≠ 0) : fMag b ≠ 0 := by
  intro hm
  have := fUnits_pos h
  rw [fUnits_eq, hm, magUnits_zero] at this
  exact this.false

/-- The sign of a value that is not zero is its sign bit. -/
theorem sign_fInt {b : F32} (h : fInt b ≠ 0) : (fInt b).sign = if fSign b then -1 else 1 := by
  have := fUnits_pos h
  rw [fInt]
  split
  · simpa using this
  · simpa using this

/-- fdiv rounds the exact quotient of the units, whose sign is put on the numerator. -/
theorem roundsTo_fdiv {a b : F32} (ha : fFinite a = true) (hb : fFinite b = true) (hb0 : fInt b ≠ 0) :
    RoundsTo (fdiv a b) (fInt a * (fInt b).sign * 2 ^ 149) (fUnits b) := by
  rw [fdiv, fNaN_of_finite ha, fNaN_of_finite hb, fInf_of_finite ha, fInf_of_finite hb]
  simp only [Bool.or_self, Bool.false_eq_true, if_false, if_neg (fMag_ne_zero hb0)]
  refine roundsTo_withSign (fUnits_pos hb0) ?_
  rw [sign_fInt hb0, fInt, Nat.shiftLeft_eq]
  cases fSign a <;> cases fSign b <;> simp

end Sys2Proof.Machine
end

section
/-! The statements of 00_scope.md R10. -/

namespace Sys2Proof.Machine

/-- A rounding whose exact value is whole in units of 2^-149. -/
theorem RoundsTo.whole {w : F32} {X : ℤ} (h : RoundsTo w X 1) :
    (fFinite w = true → ∀ c : F32, |fInt w - X| ≤ |fInt c - X| ∧
      (|fInt w - X| = |fInt c - X| → fInt c ≠ fInt w → w.getLsbD 0 = false)) ∧
    (|X| < overflowBound → fFinite w = true) ∧ (overflowBound ≤ |X| → w = infinityOf X) := by
  obtain ⟨hnear, hfin, hinf⟩ := h
  simp only [Nat.cast_one, mul_one] at hnear hfin hinf
  exact ⟨hnear, hfin, hinf⟩

/-- Settles O34: fadd and fsub from `roundsTo_withSign`, the comparisons from the order of `keyUnits`. -/
theorem sumsRoundAndComparisonsOrderByValue : Obligations.SumsRoundAndComparisonsOrderByValue := by
  refine ⟨fun a b c ha hb _ => ?_, fun a b ha hb => ?_, fun a b ha hb => ?_, fun _ _ => compare_of_nan,
    by decide, fun _ => ⟨clamp01_of_neg, clamp01_of_one_lt, clamp01_of_level⟩⟩
  · exact ⟨fun h => (roundsTo_fadd ha hb).whole.1 h c, fun h => (roundsTo_fsub ha hb).whole.1 h c⟩
  · obtain ⟨-, addFinite, addOverflow⟩ := (roundsTo_fadd ha hb).whole
    obtain ⟨-, subFinite, subOverflow⟩ := (roundsTo_fsub ha hb).whole
    exact ⟨addFinite, addOverflow, subFinite, subOverflow⟩
  · have hord := fOrdered_of_not_nan ha hb
    exact ⟨flt_iff hord, fle_iff hord, fgt_iff hord, fge_iff hord, feq_iff hord, fne_iff hord⟩

/-- The scale of a product, as the model shifts it. -/
theorem cast_one_shiftLeft_149 : ((1 <<< 149 : ℕ) : ℤ) = 2 ^ 149 := by
  rw [Nat.one_shiftLeft]
  norm_cast

/-- A positive scale leaves the infinity's sign. -/
theorem infinityOf_mul_pos (x : ℤ) {d : ℤ} (hd : 0 < d) : infinityOf (x * d) = infinityOf x := by
  simp only [infinityOf, mul_neg_iff, hd, hd.not_gt, and_true, and_false, false_or]

/-- Distances from a quotient, scaled by the divisor, do not depend on the divisor's sign. -/
theorem abs_mul_fInt_sub (u x : ℤ) {b : F32} (h : fInt b ≠ 0) :
    |u * fUnits b - x * (fInt b).sign * 2 ^ 149| = |u * fInt b - x * 2 ^ 149| := by
  have hunits : (fUnits b : ℤ) = fInt b * (fInt b).sign := by rw [Int.mul_sign_self, natAbs_fInt]
  have hsign : |(fInt b).sign| = 1 := by rw [sign_fInt h]; split <;> rfl
  calc |u * fUnits b - x * (fInt b).sign * 2 ^ 149|
      = |(u * fInt b - x * 2 ^ 149) * (fInt b).sign| := by rw [hunits]; ring_nf
    _ = |u * fInt b - x * 2 ^ 149| := by rw [abs_mul, hsign, mul_one]

/-- The magnitude of a quotient, scaled by the divisor. -/
theorem abs_quotient (x : ℤ) {b : F32} (h : fInt b ≠ 0) :
    |x * (fInt b).sign * 2 ^ 149| = |x| * 2 ^ 149 := by
  simpa using abs_mul_fInt_sub 0 x h

/-- A quotient has the sign of the product. -/
theorem infinityOf_quotient (x : ℤ) {b : F32} (h : fInt b ≠ 0) :
    infinityOf (x * (fInt b).sign * 2 ^ 149) = infinityOf (x * fInt b) := by
  rw [infinityOf_mul_pos _ (by positivity), ← infinityOf_mul_pos _ (abs_pos.2 h), mul_assoc, Int.sign_mul_abs]

/-- Settles O35, from `roundsTo_withSign` of the product and of the quotient. -/
theorem productAndQuotientAreRoundedToNearestEven : Obligations.ProductAndQuotientAreRoundedToNearestEven := by
  refine ⟨fun a b c ha hb _ => ⟨?_, fun hb0 => ?_⟩, fun a b ha hb => ?_⟩
  · have hnear := (roundsTo_fmul ha hb).nearest
    rw [cast_one_shiftLeft_149] at hnear
    exact fun h => hnear h c
  · have hnear := (roundsTo_fdiv ha hb hb0).nearest
    simp only [abs_mul_fInt_sub _ _ hb0] at hnear
    exact fun h => hnear h c
  · obtain ⟨-, mulFinite, mulOverflow⟩ := roundsTo_fmul ha hb
    rw [cast_one_shiftLeft_149] at mulFinite mulOverflow
    have units : (fUnits b : ℤ) = |fInt b| := by rw [← natAbs_fInt, Int.abs_eq_natAbs]
    refine ⟨mulFinite, mulOverflow, fun hb0 hlt => ?_, fun hb0 hge => ?_⟩
    · exact (roundsTo_fdiv ha hb hb0).finite (by rwa [abs_quotient _ hb0, units])
    · rw [(roundsTo_fdiv ha hb hb0).overflow (by rwa [abs_quotient _ hb0, units]), infinityOf_quotient _ hb0]

end Sys2Proof.Machine
end

section
/-! What a step can do, said once. `Change s t` is one elementary change of the state and `Changes` some of
them in turn: `step_changes` takes every step but a write of ERR apart into them, so an invariant of every
step is one lemma over the constructors of `Change`. -/

namespace Sys2Proof.Machine

open Sys2Proof.Config

/-! ### What Process does to a voice -/

/-- The state step of Process on a voice that stays active (41_voice.md R209 to R212). -/
inductive Voice.Advances (p : Params) (dt : F32) (x : Voice) : Voice → Prop where
  | attack : x.state = .attack → Advances p dt x (x.attackStep dt)
  | decay : x.state = .decay → Advances p dt x (x.decayStep p dt)
  | sustain : x.state = .sustain → Advances p dt x (x.sustainStep p)
  | ramp : x.state = .release → fgt (fsub x.timer dt) p.releaseSnapMs = true →
      Advances p dt x { x with
        timer := fsub x.timer dt
        current := rampLevel x.bottom (fsub x.timer dt) x.target x.delta }
  | hold : x.state = .release → Advances p dt x { x with timer := fsub x.timer dt }

/-- The entry actions and the trigger end leave what a voice is bound to and whether it is active. -/
theorem Voice.enter_identity (p : Params) (v : Voice) :
    (v.enter p).active = v.active ∧ (v.enter p).bound = v.bound ∧ (v.enter p).channel = v.channel ∧
      (v.enter p).group = v.group ∧ (v.enter p).scale = v.scale := by
  unfold Voice.enter Voice.triggerEnd Voice.startEntry
  dsimp only
  split_ifs <;> exact ⟨rfl, rfl, rfl, rfl, rfl⟩

@[simp] theorem Voice.enter_active (p : Params) (v : Voice) : (v.enter p).active = v.active :=
  (v.enter_identity p).1

/-- A voice beyond NUM_VOICES reads as an inactive one. -/
theorem State.lt_of_active {s : State} {v : ℕ} (h : (s.voice v).active = true) : v < s.voices.length := by
  by_contra hv
  rw [State.voice, List.getD_eq_default _ _ (Nat.le_of_not_lt hv)] at h
  cases h

/-- A voice beyond NUM_VOICES reads as an unbound one. -/
theorem State.lt_of_bound {s : State} {v : ℕ} (h : (s.voice v).bound = true) : v < s.voices.length := by
  by_contra hv
  rw [State.voice, List.getD_eq_default _ _ (Nat.le_of_not_lt hv)] at h
  cases h

/-! ### The elementary changes -/

/-- One elementary change of the state, but for a write of ERR. -/
inductive Change (s : State) : State → Prop where
  /-- The host's next access is taken (log 1). -/
  | frames (fs : List Frame) : Change s { s with frames := fs }
  | reply (w : Word) : Change s (s.reply w)
  /-- An event of the trace, but for the error log and the samples (20_memory.md R112). -/
  | emit (e : Event) : e.isInfo = false → e.isSample = false → Change s (s.emit e)
  | raise (e : ErrorKind) (i op : Byte) : Change s (s.raise e i op)
  /-- A bus answer is taken (log 3). -/
  | busAnswer (as : List BusAnswer) (n : ℕ) : Change s { s with busAnswers := as, freeIndex := n }
  /-- A modulation answer is taken and latched (42_driver.md R261). -/
  | modulation (a : ModAnswer) (as : List ModAnswer) (n : ℕ) :
      Change s { s with modTri := a.tri, modSin := a.sin, modAnswers := as, freeIndex := n }
  | modSel (b : Bool) : Change s { s with modSel := b }
  | tickDt (w : Word) : legalTime w = true → Change s { s with tickDt := w }
  | notReady : Change s { s with ready := false }
  | adcCfg (gain rate : BitVec 3) : Change s { s with adcGain := gain, adcRate := rate }
  | descriptor (i : ℕ) (f : Descriptor → Descriptor) : Change s { s with table := s.table.modify i f }
  | beginResult (w : Word) : Change s { s with beginResult := w }
  /-- A conversion is awaited (43_aal.md R295). -/
  | await (d : Byte) : d.toNat < s.numDevices → (s.device d.toNat).kind = .ai →
      Change s { s with awaiting := true, awaitDev := d }
  /-- A conversion is delivered (43_aal.md R296). -/
  | deliver (raw : Half) : Change s (s.deliver raw)
  /-- The host writes a voice register (40_host_access.md R181). -/
  | writeVoice (v : ℕ) (r : VoiceReg) (w : Word) (x : Voice) :
      writeVoiceReg w (s.voice v) r = .ok x → Change s (s.setVoice v x)
  /-- NEWVOICE binds (41_voice.md R201). -/
  | bind (v : ℕ) (group : BitVec 4) (channel : Byte) : group.toNat < s.numGroups → (s.voice v).bound = false →
      Change s (s.setVoice v
        { s.voice v with channel := channel, group := group, bound := true, dirty := true })
  /-- START activates (41_voice.md R202). -/
  | activate (v : ℕ) : (s.voice v).bound = true → (s.voice v).active = false →
      Change s ((s.setVoice v
        { s.voice v with active := true, state := .start, trigEnd := false, peak := false }).incGroup
          (s.voice v).group)
  /-- END asks for the release (41_voice.md R203). -/
  | trigger (v : ℕ) : Change s (s.setVoice v { s.voice v with trigEnd := true })
  /-- Process takes an active voice on (41_voice.md R205). -/
  | advance (v : ℕ) (y : Voice) : (s.voice v).active = true →
      ((s.voice v).enter s.params).Advances s.params s.tickDt y →
      Change s (s.setVoice v (y.markDirty (s.voice v).current (s.voice v).state))
  /-- Process clears an active voice (41_voice.md R206). -/
  | leave (v : ℕ) (timer : F32) : (s.voice v).active = true →
      Change s ((s.decGroup ((s.voice v).enter s.params).group).setVoice v
        ({ (s.voice v).enter s.params with timer := timer }.cleared.markDirty (s.voice v).current
          (s.voice v).state))
  /-- Process clears an inactive voice (41_voice.md R213; log 9). -/
  | clear (v : ℕ) : (s.voice v).active = false → Change s (s.setVoice v (s.voice v).cleared)
  /-- Update takes its code (41_voice.md R215). -/
  | sent (v : ℕ) (code : Half) : Change s (s.setVoice v { s.voice v with lastCode := code, dirty := false })
  /-- A buffered write (43_aal.md R289 to R291). -/
  | output (d : Byte) (k : Kind) (value : Half) : d.toNat < s.numDevices → (s.device d.toNat).kind = k →
      k = .ao ∨ k = .do_ ∧ value.toNat ≤ 1 →
      Change s (s.setBoard (s.device d.toNat).board.toNat
        ((s.board (s.device d.toNat).board.toNat).write (s.device d.toNat).channel.toNat value))
  /-- A probe sets VALID (43_aal.md R297). -/
  | validity (b : ℕ) (ok : Bool) : Change s (s.setBoard b { s.board b with valid := ok })
  /-- A flush clears the dirty mask (43_aal.md R292). -/
  | flushed (b : ℕ) : Change s (s.setBoard b { s.board b with dirty := 0#16 })
  /-- RESETBOARD clears the buffer (43_aal.md R298). -/
  | emptied (b : ℕ) :
      Change s (s.setBoard b { s.board b with buf := List.replicate maxCh 0#16, dirty := 0#16 })
  /-- BEGIN builds the tables (43_aal.md R280, R281, R286). -/
  | tables (boards : List Board) : s.begun = false → buildBoards 0 (configTable s.table) = .ok boards →
      Change s (s.withTables boards)

/-- Elementary changes one after another. -/
abbrev Changes : State → State → Prop := Relation.ReflTransGen Change

/-- One change. -/
theorem Change.one {s t : State} (h : Change s t) : Changes s t := .single h

/-- What every change keeps, changes in turn keep. -/
theorem Changes.keep {P : State → Prop} (h : ∀ s t, Change s t → P s → P t) {s t : State} (hst : Changes s t)
    (hs : P s) : P t := by
  induction hst with
  | refl => exact hs
  | tail _ hc ih => exact h _ _ hc ih

/-- A scan whose every turn makes changes makes changes. -/
theorem foldl_changes {f : State → ℕ → State} (h : ∀ s b, Changes s (f s b)) (l : List ℕ) (s : State) :
    Changes s (l.foldl f s) := by
  induction l generalizing s with
  | nil => exact .refl
  | cons b rest ih => exact (h s b).trans (ih (f s b))

/-! ### The bus operations -/

theorem askBus_changes (s : State) : Changes s s.askBus.2 := by
  unfold State.askBus
  split <;> exact (Change.busAnswer _ _).one

theorem recordTxn_changes (s : State) (k : TxnKind) (a : BusAddr) (out : List Byte) (n : ℕ) (st : BusStatus)
    (bs : List Byte) (i op : Byte) : Changes s (s.recordTxn k a out n st bs i op) := by
  unfold State.recordTxn
  split
  · exact (Change.emit _ rfl rfl).one
  · exact (Change.emit _ rfl rfl).one.tail (.raise ..)

theorem busWrite_changes (s : State) (a : BusAddr) (bytes : List Byte) (i op : Byte) :
    Changes s (s.busWrite a bytes i op).2 :=
  (askBus_changes s).trans (recordTxn_changes ..)

theorem busProbe_changes (s : State) (a : BusAddr) (i op : Byte) : Changes s (s.busProbe a i op).2 :=
  (askBus_changes s).trans (recordTxn_changes ..)

theorem busRead2_changes (s : State) (a : BusAddr) (i op : Byte) : Changes s (s.busRead2 a i op).2 :=
  (askBus_changes s).trans (recordTxn_changes ..)

theorem segBegin_changes (s : State) (bd : Board) (i op : Byte) : Changes s (s.segBegin bd i op).2 := by
  unfold State.segBegin
  split
  · exact .refl
  · exact busWrite_changes ..

theorem segEnd_changes (s : State) (bd : Board) (i op : Byte) : Changes s (s.segEnd bd i op) := by
  unfold State.segEnd
  split
  · exact .refl
  · exact busWrite_changes ..

theorem bracketed_changes (s : State) (bd : Board) (i op : Byte) {x : State → BusStatus × State}
    (hx : ∀ u, Changes u (x u).2) : Changes s (s.bracketed bd i op x).2 := by
  unfold State.bracketed
  dsimp only
  split
  · exact ((segBegin_changes ..).trans (hx _)).trans (segEnd_changes ..)
  · exact (segBegin_changes ..).trans (segEnd_changes ..)

theorem boardWrite_changes (s : State) (b : ℕ) (bytes : List Byte) (op : Byte) :
    Changes s (s.boardWrite b bytes op).2 :=
  bracketed_changes _ _ _ _ fun _ => busWrite_changes ..

theorem boardProbe_changes (s : State) (b : ℕ) (op : Byte) : Changes s (s.boardProbe b op).2 :=
  bracketed_changes _ _ _ _ fun _ => busProbe_changes ..

theorem adcRead_changes (s : State) (b : ℕ) (ptr op : Byte) : Changes s (s.adcRead b ptr op).2 := by
  unfold State.adcRead
  dsimp only
  split
  · split
    · exact (((segBegin_changes ..).trans (busWrite_changes ..)).trans (busRead2_changes ..)).trans
        (segEnd_changes ..)
    · exact ((segBegin_changes ..).trans (busWrite_changes ..)).trans (segEnd_changes ..)
  · exact (segBegin_changes ..).trans (segEnd_changes ..)

theorem initWrites_changes (b : ℕ) (op : Byte) (ts : List (List Byte)) (s : State) :
    Changes s (State.initWrites b op ts s) := by
  induction ts generalizing s with
  | nil => exact .refl
  | cons t rest ih =>
    unfold State.initWrites
    dsimp only
    split
    · exact (boardWrite_changes ..).trans (ih _)
    · exact boardWrite_changes ..

theorem validateBoard_changes (s : State) (b : ℕ) (op : Byte) : Changes s (s.validateBoard b op) := by
  have hprobe := (boardProbe_changes s b op).tail (.validity b (decide ((s.boardProbe b op).1 = .ok)))
  unfold State.validateBoard
  dsimp only
  split
  · exact hprobe
  · exact hprobe.tail (.raise ..)

theorem bringUp_changes (op : Byte) (s : State) (b : ℕ) : Changes s (s.bringUp op b) := by
  unfold State.bringUp
  dsimp only
  split
  · exact (validateBoard_changes ..).trans (initWrites_changes ..)
  · exact validateBoard_changes ..

theorem probeMux_changes (op : Byte) (s : State) (c : ℕ) : Changes s (s.probeMux op c) := by
  unfold State.probeMux
  split
  · exact busProbe_changes ..
  · exact .refl

theorem flushBoard_changes (op : Byte) (s : State) (b : ℕ) : Changes s (s.flushBoard op b) := by
  unfold State.flushBoard
  dsimp only
  split
  · exact (boardWrite_changes ..).tail (.flushed b)
  · exact .refl

theorem flushAll_changes (s : State) (op : Byte) : Changes s (s.flushAll op) :=
  foldl_changes (flushBoard_changes op) _ s

/-! ### The voice commands -/

/-- Clear of an active voice (41_voice.md R206). -/
theorem clearVoice_of_active {s : State} {v : ℕ} {x : Voice} (hx : s.voice v = x) (h : x.active = true) :
    s.clearVoice v = (s.decGroup x.group).setVoice v x.cleared := by
  rw [State.clearVoice, hx, h, if_pos rfl]

/-- The state step of Process on an active voice v that has entered as x: it goes on, or it is cleared, with
VoiceInvariant recorded where its state is no state of an active voice (41_voice.md R209 to R213). -/
theorem stateStep_cases {s : State} {v : ℕ} {x : Voice} (dt : F32) (op : Byte) (hv : v < s.voices.length)
    (hx : x.active = true) :
    (∃ y, x.Advances s.params dt y ∧ (s.setVoice v x).stateStep v dt op = s.setVoice v y) ∨
    ∃ u timer, (u = s ∨ u = s.raise .voiceInvariant (BitVec.ofNat 8 v) op) ∧
      (s.setVoice v x).stateStep v dt op = (u.decGroup x.group).setVoice v { x with timer := timer }.cleared := by
  have hself (u : State) (y : Voice) (hu : u.voices = s.voices) : (u.setVoice v y).voice v = y :=
    u.setVoice_voice_self v y (hu ▸ hv)
  have hclear (u : State) (y : Voice) (hu : u.voices = s.voices) (hy : y.active = true) :
      (u.setVoice v y).clearVoice v = (u.decGroup y.group).setVoice v y.cleared :=
    (clearVoice_of_active (hself u y hu) hy).trans (State.setVoice_setVoice (u.decGroup y.group) v y _)
  have hviolation : (s.setVoice v x).invariantViolation v op =
      ((s.raise .voiceInvariant (BitVec.ofNat 8 v) op).decGroup x.group).setVoice v x.cleared :=
    hclear (s.raise .voiceInvariant (BitVec.ofNat 8 v) op) x rfl hx
  unfold State.stateStep
  rw [hself s x rfl]
  cases hst : x.state
  case attack => exact .inl ⟨_, .attack hst, s.setVoice_setVoice ..⟩
  case decay => exact .inl ⟨_, .decay hst, s.setVoice_setVoice ..⟩
  case sustain => exact .inl ⟨_, .sustain hst, s.setVoice_setVoice ..⟩
  case release =>
    simp only [State.releaseStep, hself s x rfl, State.setVoice_setVoice, State.setVoice_params]
    split
    next hramp => exact .inl ⟨_, .ramp hst hramp, rfl⟩
    next =>
      split
      next => exact .inl ⟨_, .hold hst, rfl⟩
      next => exact .inr ⟨s, _, .inl rfl, hclear s _ rfl hx⟩
  all_goals exact .inr ⟨_, x.timer, .inr rfl, hviolation⟩

/-- Process of an active voice is its state step and MarkDirty (41_voice.md R205). -/
theorem processVoice_of_stateStep {s u : State} {v : ℕ} {dt : F32} {op : Byte} {y : Voice}
    (hact : (s.voice v).active = true)
    (h : (s.setVoice v ((s.voice v).enter s.params)).stateStep v dt op = u.setVoice v y)
    (hv : v < u.voices.length) :
    s.processVoice v dt op = u.setVoice v (y.markDirty (s.voice v).current (s.voice v).state) := by
  rw [State.processVoice, if_pos hact]
  dsimp only
  rw [h, State.setVoice_voice_self _ _ _ hv, State.setVoice_setVoice]

/-- Process makes changes (41_voice.md R205). -/
theorem processVoice_changes (s : State) (v : ℕ) (op : Byte) : Changes s (s.processVoice v s.tickDt op) := by
  by_cases hact : (s.voice v).active = true
  · have hv := State.lt_of_active hact
    rcases stateStep_cases s.tickDt op hv ((Voice.enter_active s.params _).trans hact) with
      ⟨y, hy, hstep⟩ | ⟨u, timer, rfl | rfl, hstep⟩
    · rw [processVoice_of_stateStep hact hstep hv]
      exact (Change.advance v y hact hy).one
    · rw [processVoice_of_stateStep hact hstep hv]
      exact (Change.leave v timer hact).one
    · rw [processVoice_of_stateStep hact hstep hv]
      exact (Change.raise _ _ _).one.tail (.leave v timer hact)
  · rw [State.processVoice, if_neg hact]
    split
    · exact .refl
    · rw [State.invariantViolation, State.clearVoice, State.raise_voice, if_neg hact]
      exact (Change.raise _ _ _).one.tail (.clear v (Bool.eq_false_iff.2 hact))

/-- A buffered write makes changes where its value fits its kind (43_aal.md R289). -/
theorem setOut_changes (s : State) (d : Byte) (k : Kind) (value : Half) (op : Byte)
    (hvalue : k = .ao ∨ k = .do_ ∧ value.toNat ≤ 1) : Changes s (s.setOut d k value op) := by
  rcases setOut_cases s d k value op with ⟨hd, hk, -, h⟩ | ⟨-, -, -, h⟩ | ⟨-, h⟩
  · exact h ▸ (Change.output d k value hd hk hvalue).one
  · rw [h]
  · exact h ▸ (Change.raise _ _ _).one

/-- Update makes changes (41_voice.md R215). -/
theorem updateVoice_changes (s : State) (v : ℕ) (op : Byte) : Changes s (s.updateVoice v op) := by
  unfold State.updateVoice
  dsimp only
  split
  · exact (Change.sent v _).one.trans (setOut_changes _ _ _ _ _ (.inl rfl))
  · exact .refl

/-- A check of a voice index records BadCommand or goes on (30_encoding.md R148). -/
theorem withVoice_changes (v op : Byte) {f : State → State} {s : State} (hf : Changes s (f s)) :
    Changes s (s.withVoice v op f) := by
  unfold State.withVoice
  split
  · exact hf
  · exact (Change.raise _ _ _).one

theorem bindVoice_changes (s : State) (v : Byte) {group : BitVec 4} (channel : Byte)
    (hg : group.toNat < s.numGroups) : Changes s (s.bindVoice v group channel) := by
  unfold State.bindVoice
  dsimp only
  split
  · exact (Change.raise _ _ _).one
  next hfree => exact (Change.bind _ group channel hg (Bool.eq_false_iff.2 hfree)).one

theorem startVoice_changes (s : State) (v : ℕ) : Changes s (s.startVoice v) := by
  unfold State.startVoice
  dsimp only
  split
  · exact .refl
  next hstart =>
    simp only [Bool.or_eq_true, Bool.not_eq_true', not_or, Bool.not_eq_false, Bool.not_eq_true] at hstart
    obtain ⟨⟨⟨hbound, hactive⟩, -⟩, -⟩ := hstart
    exact (Change.activate v hbound hactive).one

theorem endVoice_changes (s : State) (v : ℕ) : Changes s (s.endVoice v) := by
  unfold State.endVoice
  split
  · exact (Change.trigger v).one
  · exact .refl

/-! ### TICK -/

theorem tickModulation_changes (s : State) : Changes s s.tickModulation := by
  unfold State.tickModulation
  dsimp only
  rw [askMod_rest]
  exact (Change.emit _ rfl rfl).one.tail (.modulation ..)

/-- One voice's turn in a tick makes changes and keeps TICK_DT. -/
theorem tickVoice_changes (op : Byte) (s : State) (v : ℕ) :
    Changes s (s.tickVoice s.tickDt op v) ∧ (s.tickVoice s.tickDt op v).tickDt = s.tickDt := by
  unfold State.tickVoice
  split
  · refine ⟨(processVoice_changes s v op).trans (updateVoice_changes _ v op), ?_⟩
    rw [updateVoice_rest, processVoice_rest]
  · exact ⟨.refl, rfl⟩

theorem tickVoices_changes (s : State) (op : Byte) : Changes s (s.tickVoices s.tickDt op) := by
  suffices h : ∀ (l : List ℕ) (u : State), u.tickDt = s.tickDt → Changes u (l.foldl (State.tickVoice s.tickDt op) u)
    from h _ s rfl
  intro l
  induction l with
  | nil => exact fun _ _ => .refl
  | cons v rest ih =>
    intro u hu
    obtain ⟨hchanges, hdt⟩ := tickVoice_changes op u v
    rw [hu] at hchanges hdt
    exact hchanges.trans (ih _ hdt)

theorem tickModulation_tickDt (s : State) : s.tickModulation.tickDt = s.tickDt := by
  unfold State.tickModulation
  dsimp only
  rw [askMod_rest]
  rfl

/-! ### The actuator abstraction layer -/

theorem busPhase_changes (s : State) : Changes s s.busPhase := by
  unfold State.busPhase
  exact (((Change.emit _ rfl rfl).one.trans (foldl_changes (probeMux_changes _) _ _)).trans
    (foldl_changes (bringUp_changes _) _ _)).tail (.beginResult _)

theorem beginFailed_changes (s : State) (e : ErrorKind) (i : Byte) : Changes s (s.beginFailed e i) :=
  (Change.beginResult _).one.tail (.raise ..)

theorem beginTables_changes (s : State) : Changes s s.beginTables := by
  unfold State.beginTables
  split
  · exact (Change.raise _ _ _).one
  next hbegun =>
    split
    · exact beginFailed_changes ..
    · split
      · exact beginFailed_changes ..
      next boards hboards =>
        exact (Change.tables boards (Bool.eq_false_iff.2 hbegun) hboards).one.trans (busPhase_changes _)

theorem startConversion_changes (s : State) (d : Byte) : Changes s (s.startConversion d) := by
  unfold State.startConversion
  rcases translate_cases s d .ai 0x14#8 with ⟨hd, hk, h⟩ | ⟨-, h⟩ <;> rw [h] <;> dsimp only
  · split
    · split
      · have heffect := boardWrite_effect s (s.device d.toNat).board.toNat
          [s.params.adcPtrConfig, hi (adcConfig s.params (s.device d.toNat).adcSel s.adcGain s.adcRate),
            lo (adcConfig s.params (s.device d.toNat).adcSel s.adcGain s.adcRate)] 0x14#8
        refine (boardWrite_changes ..).tail (.await d ?_ ?_)
        · rwa [State.numDevices, heffect.devices]
        · rwa [heffect.device]
      · exact boardWrite_changes ..
    · exact .refl
  · exact (Change.raise _ _ _).one

theorem pollConversion_changes (s : State) : Changes s s.pollConversion := by
  unfold State.pollConversion
  dsimp only
  split_ifs
  · exact .refl
  · exact .refl
  · exact adcRead_changes ..
  · exact adcRead_changes ..
  · exact (adcRead_changes ..).trans (adcRead_changes ..)
  · exact ((adcRead_changes ..).trans (adcRead_changes ..)).tail (.deliver _)

/-- A check of a board index records BadCommand or goes on (30_encoding.md R148). -/
theorem withBoard_changes (b op : Byte) {f : State → State} {s : State} (hf : Changes s (f s)) :
    Changes s (s.withBoard b op f) := by
  unfold State.withBoard
  split
  · exact hf
  · exact (Change.raise _ _ _).one

/-! ### A step -/

/-- The commands of 30_encoding.md R144, that is every instruction but the two host accesses. -/
def isCommand : Instr → Bool
  | .rd _ => false
  | .wr _ _ => false
  | _ => true

/-- Every command makes changes. -/
theorem exec_command_changes {i : Instr} {s t : State} (hi : isCommand i = true) (h : exec i s = .next t) :
    Changes s t := by
  cases i
  case rd a => cases hi
  case wr a w => cases hi
  all_goals obtain rfl := Host.Outcome.next.inj h
  case nop => exact .refl
  case newvoice v group channel =>
    refine withVoice_changes _ _ ?_
    split
    next hg => exact bindVoice_changes _ _ _ hg
    next => exact (Change.raise _ _ _).one
  case start v => exact withVoice_changes _ _ (startVoice_changes ..)
  case endNote v => exact withVoice_changes _ _ (endVoice_changes ..)
  case process v => exact withVoice_changes _ _ (processVoice_changes ..)
  case update v =>
    refine withVoice_changes _ _ ?_
    split
    · exact updateVoice_changes ..
    · exact (Change.raise _ _ _).one
  case tick =>
    rw [← tickModulation_tickDt s]
    exact ((tickModulation_changes s).trans (tickVoices_changes ..)).trans (flushAll_changes ..)
  case beginAal => exact beginTables_changes s
  case setao d value => exact setOut_changes _ _ _ _ _ (.inl rfl)
  case setdo d value =>
    have hbit : (value.setWidth 16).toNat ≤ 1 := by
      have := value.isLt
      rw [BitVec.toNat_setWidth]
      omega
    exact setOut_changes _ _ _ _ _ (.inr ⟨rfl, hbit⟩)
  case flush => exact flushAll_changes ..
  case startconv d => exact startConversion_changes ..
  case poll => exact pollConversion_changes s
  case validate b => exact withBoard_changes _ _ (validateBoard_changes ..)
  case resetboard b => exact withBoard_changes _ _ ((bringUp_changes ..).tail (.emptied _))

/-- The command a command word decodes to is executed (40_host_access.md R188). -/
theorem execCommand_of_decoded {w : Word} {i : Instr} (s : State) (hdec : decodeCommand w = .ok i)
    (hi : isCommand i = true) : execCommand w s = exec i s := by
  unfold execCommand
  rw [hdec]
  cases i
  case rd a => cases hi
  case wr a d => cases hi
  all_goals rfl

/-- A word that decodes to no command is only recorded (30_encoding.md R147, R148). -/
theorem execCommand_of_not_command {w : Word} (s : State)
    (h : ∀ i, decodeCommand w = .ok i → isCommand i = false) : execCommand w s = .next (s.badCommandWord w) := by
  unfold execCommand
  cases hdec : decodeCommand w with
  | error e => rfl
  | ok i =>
    have hi := h i hdec
    cases i
    case rd a => rfl
    case wr a d => rfl
    all_goals cases hi

/-- A write of CMD makes changes (40_host_access.md R188). -/
theorem execCommand_changes {w : Word} {s t : State} (h : execCommand w s = .next t) : Changes s t := by
  by_cases hcommand : ∃ i, decodeCommand w = .ok i ∧ isCommand i = true
  · obtain ⟨i, hdec, hi⟩ := hcommand
    exact exec_command_changes hi (execCommand_of_decoded s hdec hi ▸ h)
  · have hnot : ∀ i, decodeCommand w = .ok i → isCommand i = false := by simpa using hcommand
    rw [execCommand_of_not_command s hnot] at h
    exact Host.Outcome.next.inj h ▸ (Change.raise _ _ _).one

/-- A write of a register other than ERR makes changes (40_host_access.md R181). -/
theorem writeReg_changes (s : State) {r : Reg} (w : Word) (hr : r ≠ .err) : Changes s (s.writeReg r w) := by
  cases r with
  | err => exact absurd rfl hr
  | gctrl => exact (Change.modSel _).one
  | tickDt =>
    simp only [State.writeReg]
    split
    next hw => exact (Change.tickDt w hw).one
    next => exact (Change.raise _ _ _).one
  | convStatus =>
    simp only [State.writeReg]
    split
    · exact Change.notReady.one
    · exact .refl
  | adcCfg => exact (Change.adcCfg _ _).one
  | cfgW0 i => exact (Change.descriptor i _).one
  | cfgW1 i => exact (Change.descriptor i _).one
  | voice v x =>
    simp only [State.writeReg, State.writeVoice]
    split
    next y hy => exact (Change.writeVoice v x w y hy).one
    next => exact (Change.raise _ _ _).one
  | cmd => exact .refl
  | _ => exact (Change.raise _ _ _).one

/-- ERR stands at one address of the global registers (10_state.md R32). -/
theorem eq_of_globalRegAt_err {n : ℕ} (h : globalRegAt n = some .err) : n = 3 := by
  unfold globalRegAt at h
  split at h
  case h_4 => rfl
  all_goals cases h

/-- ERR stands at one address of the map (20_memory.md R102). -/
theorem addr_of_regOf_err {s : State} {a : HostAddr} (h : s.regOf a = some .err) : a = 0x0003#16 := by
  simp only [State.regOf, regAt, ite_eq_iff, Option.some.injEq, Option.map_eq_some_iff, reduceCtorEq, and_false,
    or_false, exists_false] at h
  exact BitVec.eq_of_toNat_eq (eq_of_globalRegAt_err h.2)

/-- A host write makes changes, but for one of ERR (40_host_access.md R181). -/
theorem execWr_changes {a : HostAddr} {w : Word} {s t : State} (h : execWr a w s = .next t) :
    (a = 0x0003#16 ∧ t = s.clearErr w) ∨ Changes s t := by
  unfold execWr at h
  split at h
  next => exact .inr (Host.Outcome.next.inj h ▸ (Change.raise _ _ _).one)
  next => exact .inr (execCommand_changes h)
  next r _ hr =>
    obtain rfl := Host.Outcome.next.inj h
    by_cases herr : r = .err
    · subst herr
      exact .inl ⟨addr_of_regOf_err hr, rfl⟩
    · exact .inr (writeReg_changes s w herr)

/-- Every instruction makes changes, but for a write of ERR. -/
theorem exec_changes {i : Instr} {s t : State} (h : exec i s = .next t) :
    (∃ w, i = .wr 0x0003#16 w ∧ t = s.clearErr w) ∨ Changes s t := by
  cases i with
  | rd a =>
    refine .inr ?_
    simp only [exec, execRd] at h
    split at h <;> obtain rfl := Host.Outcome.next.inj h
    · exact (Change.reply _).one
    · exact (Change.raise _ _ _).one.tail (.reply _)
  | wr a w =>
    rcases execWr_changes h with ⟨rfl, ht⟩ | hchanges
    · exact .inl ⟨w, rfl, ht⟩
    · exact .inr hchanges
  | _ => exact .inr (exec_command_changes rfl h)

/-- A frame is built of its four fields (30_encoding.md R141). -/
theorem frame_fields (f : Frame) : ofBit (frameW f) ++ frameRes f ++ frameAddr f ++ frameData f = f := by
  refine BitVec.eq_of_getLsbD_eq fun i hi => ?_
  simp only [frameW, frameRes, frameAddr, frameData, BitVec.getLsbD_extractLsb', BitVec.getLsbD_append]
  interval_cases i <;> simp

/-- The frame a host write was decoded from (30_encoding.md R141). -/
theorem frame_of_decodeFrame_wr {f : Frame} {a : HostAddr} {w : Word} (h : decodeFrame f = .ok (.wr a w)) :
    f = 0x8000#16 ++ a ++ w := by
  unfold decodeFrame at h
  split at h
  next => cases h
  next hres =>
    split at h
    next hw =>
      obtain ⟨rfl, rfl⟩ := Instr.wr.inj (Except.ok.inj h)
      have hfields := frame_fields f
      rw [hw, not_not.1 hres] at hfields
      exact hfields.symm
    next => split at h <;> cases h

/-- Every step makes changes, but for one that a write of ERR is. -/
theorem step_changes {s t : State} (h : step s = .next t) :
    (∃ w rest, s.frames = (0x8000#16 ++ 0x0003#16 ++ w) :: rest ∧
      t = State.clearErr w { s with frames := rest }) ∨ Changes s t := by
  cases hframes : s.frames with
  | nil =>
    rw [step_of_idle hframes] at h
    exact .inr (Host.Outcome.next.inj h ▸ .refl)
  | cons f rest =>
    have htaken : Changes s { s with frames := rest } := (Change.frames rest).one
    cases hdec : decodeFrame f with
    | error e =>
      rw [step_of_malformed hframes hdec, State.rejectFrame] at h
      obtain rfl := Host.Outcome.next.inj h
      refine .inr ?_
      split
      · exact htaken.tail (.raise ..)
      · exact (htaken.tail (.raise ..)).tail (.reply _)
    | ok i =>
      rw [step_of_decoded hframes hdec] at h
      rcases exec_changes h with ⟨w, rfl, ht⟩ | hchanges
      · exact .inl ⟨w, rest, by rw [frame_of_decodeFrame_wr hdec], ht⟩
      · exact .inr (htaken.trans hchanges)

end Sys2Proof.Machine
end

section
/-! What every step keeps of ERR (10_state.md R39) and of the sizes, the built tables and the bindings. -/

namespace Sys2Proof.Machine

open Sys2Proof.Config

/-- Every change keeps a set ERR bit set. -/
theorem Change.err {s t : State} (h : Change s t) {k : ℕ} (hk : s.err.getLsbD k = true) :
    t.err.getLsbD k = true := by
  cases h with
  | raise e i op => rw [State.raise_err, BitVec.getLsbD_or, hk, Bool.true_or]
  | _ => exact hk

/-- Settles O10: a step makes changes, or is a write of ERR whose bit k is 0. -/
theorem errBitStaysUntilCleared : Obligations.ErrBitStaysUntilCleared := by
  intro s t k hstep hk hwrite
  rcases step_changes hstep with ⟨w, rest, hframes, rfl⟩ | hchanges
  · have hw : (w.extractLsb' 0 9).getLsbD k = false := by
      rw [BitVec.getLsbD_extractLsb', Nat.zero_add, hwrite w rest hframes, Bool.and_false]
    have hlt : k < 9 := BitVec.lt_of_getLsbD hk
    rw [State.clearErr_err, BitVec.getLsbD_and, hk, BitVec.getLsbD_not, hw, decide_eq_true hlt]
    rfl
  · exact hchanges.keep (P := fun u => u.err.getLsbD k = true) (fun _ _ hc => hc.err) hk

/-- What a bound voice keeps for good (41_voice.md R201; 10_state.md R54). -/
def Voice.SameBinding (x y : Voice) : Prop :=
  x.bound = true → y.bound = true ∧ y.channel = x.channel ∧ y.group = x.group ∧ y.scale = x.scale

theorem Voice.SameBinding.trans {x y z : Voice} (h : x.SameBinding y) (k : y.SameBinding z) : x.SameBinding z := by
  intro hx
  obtain ⟨hbound, hchannel, hgroup, hscale⟩ := h hx
  obtain ⟨kbound, kchannel, kgroup, kscale⟩ := k hbound
  exact ⟨kbound, kchannel.trans hchannel, kgroup.trans hgroup, kscale.trans hscale⟩

/-- What no step changes: the sizes and parameters, the tables once built and the bindings of bound voices. -/
structure SameIdentity (s t : State) : Prop where
  params : t.params = s.params
  numVoices : t.numVoices = s.numVoices
  numGroups : t.numGroups = s.numGroups
  descriptors : t.table.length = s.table.length
  tables : s.begun = true → t.begun = true ∧ t.devices = s.devices ∧
    t.boards.map Board.location = s.boards.map Board.location
  binding : ∀ v, (s.voice v).SameBinding (t.voice v)

/-- Where no table and no parameter is touched, the identity is kept. -/
theorem SameIdentity.of_eq {s t : State} (hparams : t.params = s.params) (hvoices : t.voices = s.voices)
    (hgroups : t.groupCount = s.groupCount) (htable : t.table = s.table) (hbegun : t.begun = s.begun)
    (hdevices : t.devices = s.devices) (hboards : t.boards = s.boards) : SameIdentity s t where
  params := hparams
  numVoices := congrArg List.length hvoices
  numGroups := congrArg List.length hgroups
  descriptors := congrArg List.length htable
  tables h := ⟨hbegun.trans h, hdevices, by rw [hboards]⟩
  binding v h := by
    rw [State.voice, hvoices]
    exact ⟨h, rfl, rfl, rfl⟩

theorem SameIdentity.refl (s : State) : SameIdentity s s := .of_eq rfl rfl rfl rfl rfl rfl rfl

theorem SameIdentity.trans {s t u : State} (h : SameIdentity s t) (k : SameIdentity t u) : SameIdentity s u where
  params := k.params.trans h.params
  numVoices := k.numVoices.trans h.numVoices
  numGroups := k.numGroups.trans h.numGroups
  descriptors := k.descriptors.trans h.descriptors
  tables hs := by
    obtain ⟨hbegun, hdevices, hboards⟩ := h.tables hs
    obtain ⟨kbegun, kdevices, kboards⟩ := k.tables hbegun
    exact ⟨kbegun, kdevices.trans hdevices, kboards.trans hboards⟩
  binding v := (h.binding v).trans (k.binding v)

/-- A written voice keeps the identity where it keeps its own binding. -/
theorem sameIdentity_setVoice (s : State) (v : ℕ) {x : Voice} (hx : (s.voice v).SameBinding x) :
    SameIdentity s (s.setVoice v x) where
  params := rfl
  numVoices := s.setVoice_numVoices v x
  numGroups := rfl
  descriptors := rfl
  tables h := ⟨h, rfl, rfl⟩
  binding w := by
    by_cases hvw : v = w
    · subst hvw
      intro hbound
      rw [State.setVoice_voice_self _ _ _ (State.lt_of_bound hbound)]
      exact hx hbound
    · rw [State.setVoice_voice_ne _ _ _ _ hvw]
      exact fun h => ⟨h, rfl, rfl, rfl⟩

/-- A board written with what a function of boards says of the old one: the table says the same. -/
theorem map_setBoard {α : Type} (f : Board → α) (s : State) (b : ℕ) {x : Board} (hx : f x = f (s.board b)) :
    (s.setBoard b x).boards.map f = s.boards.map f := by
  rw [State.setBoard_boards, List.map_set, hx, State.board]
  by_cases hb : b < s.boards.length
  · rw [List.getD_eq_getElem _ _ hb, ← List.getElem_map f (h := by simpa using hb), List.set_getElem_self]
  · exact List.set_eq_of_length_le (by simpa using hb)

/-- A written board keeps the identity where it keeps its location. -/
theorem sameIdentity_setBoard (s : State) (b : ℕ) {x : Board} (hx : x.location = (s.board b).location) :
    SameIdentity s (s.setBoard b x) where
  params := rfl
  numVoices := rfl
  numGroups := rfl
  descriptors := rfl
  tables h := ⟨h, rfl, map_setBoard _ s b hx⟩
  binding _ h := ⟨h, rfl, rfl, rfl⟩

/-- A counted or uncounted voice changes no size. -/
theorem sameIdentity_incGroup (s : State) (g : BitVec 4) : SameIdentity s (s.incGroup g) :=
  ⟨rfl, rfl, s.incGroup_numGroups g, rfl, fun h => ⟨h, rfl, rfl⟩, fun _ h => ⟨h, rfl, rfl, rfl⟩⟩

theorem sameIdentity_decGroup (s : State) (g : BitVec 4) : SameIdentity s (s.decGroup g) :=
  ⟨rfl, rfl, s.decGroup_numGroups g, rfl, fun h => ⟨h, rfl, rfl⟩, fun _ h => ⟨h, rfl, rfl, rfl⟩⟩

/-- What a host write to a voice register leaves: SCALE too, once the voice is bound (40_host_access.md R182,
R184, R185). -/
theorem writeVoiceReg_keeps {w : Word} {v x : Voice} {r : VoiceReg} (h : writeVoiceReg w v r = .ok x) :
    x.active = v.active ∧ x.state = v.state ∧ x.bound = v.bound ∧ x.channel = v.channel ∧ x.group = v.group ∧
      (v.bound = true → x.scale = v.scale) := by
  cases r
  case vctrl =>
    cases h
    exact ⟨rfl, rfl, rfl, rfl, rfl, fun _ => rfl⟩
  case vstat | vbind | timer | delta | target | susCap | lastCode => cases h
  case scale =>
    simp only [writeVoiceReg] at h
    split at h <;> cases h
    next hw =>
      simp only [Bool.and_eq_true, Bool.not_eq_true'] at hw
      exact ⟨rfl, rfl, rfl, rfl, rfl, fun hb => absurd hb (Bool.eq_false_iff.1 hw.2)⟩
  all_goals
    simp only [writeVoiceReg] at h
    split at h <;> cases h
    exact ⟨rfl, rfl, rfl, rfl, rfl, fun _ => rfl⟩

/-- The state step of Process leaves what the voice is bound to, and it stays active (41_voice.md R205). -/
theorem Voice.Advances.keeps {p : Params} {dt : F32} {x y : Voice} (h : x.Advances p dt y) :
    y.active = x.active ∧ y.bound = x.bound ∧ y.channel = x.channel ∧ y.group = x.group ∧ y.scale = x.scale := by
  cases h
  case attack => unfold Voice.attackStep; dsimp only; split_ifs <;> exact ⟨rfl, rfl, rfl, rfl, rfl⟩
  case decay => unfold Voice.decayStep; dsimp only; split_ifs <;> exact ⟨rfl, rfl, rfl, rfl, rfl⟩
  case sustain => unfold Voice.sustainStep; split_ifs <;> exact ⟨rfl, rfl, rfl, rfl, rfl⟩
  all_goals exact ⟨rfl, rfl, rfl, rfl, rfl⟩

/-- Every change keeps the sizes, the built tables and the bindings. -/
theorem Change.sameIdentity {s t : State} (h : Change s t) : SameIdentity s t := by
  cases h with
  | descriptor i f =>
    exact ⟨rfl, rfl, rfl, List.length_modify .., fun h => ⟨h, rfl, rfl⟩, fun _ h => ⟨h, rfl, rfl, rfl⟩⟩
  | writeVoice v r w x hx =>
    obtain ⟨-, -, hbound, hchannel, hgroup, hscale⟩ := writeVoiceReg_keeps hx
    exact sameIdentity_setVoice s v fun hb => ⟨hbound.trans hb, hchannel, hgroup, hscale hb⟩
  | bind v group channel _ hfree =>
    exact sameIdentity_setVoice s v fun hb => absurd hb (Bool.eq_false_iff.1 hfree)
  | activate v =>
    refine (sameIdentity_setVoice s v ?_).trans (sameIdentity_incGroup ..)
    exact fun hb => ⟨hb, rfl, rfl, rfl⟩
  | trigger v => exact sameIdentity_setVoice s v fun hb => ⟨hb, rfl, rfl, rfl⟩
  | advance v y _ hy =>
    obtain ⟨-, ebound, echannel, egroup, escale⟩ := (s.voice v).enter_identity s.params
    obtain ⟨-, hbound, hchannel, hgroup, hscale⟩ := hy.keeps
    exact sameIdentity_setVoice s v fun hb =>
      ⟨(hbound.trans ebound).trans hb, hchannel.trans echannel, hgroup.trans egroup, hscale.trans escale⟩
  | leave v timer =>
    obtain ⟨-, ebound, echannel, egroup, escale⟩ := (s.voice v).enter_identity s.params
    exact (sameIdentity_decGroup ..).trans
      (sameIdentity_setVoice _ v fun hb => ⟨ebound.trans hb, echannel, egroup, escale⟩)
  | clear v => exact sameIdentity_setVoice s v fun hb => ⟨hb, rfl, rfl, rfl⟩
  | sent v code => exact sameIdentity_setVoice s v fun hb => ⟨hb, rfl, rfl, rfl⟩
  | output d k value => exact sameIdentity_setBoard s _ rfl
  | validity b ok => exact sameIdentity_setBoard s b rfl
  | flushed b => exact sameIdentity_setBoard s b rfl
  | emptied b => exact sameIdentity_setBoard s b rfl
  | tables boards hbegun =>
    exact ⟨rfl, rfl, rfl, rfl, fun h => absurd h (Bool.eq_false_iff.1 hbegun), fun _ h => ⟨h, rfl, rfl, rfl⟩⟩
  | _ => exact .of_eq rfl rfl rfl rfl rfl rfl rfl

theorem Changes.sameIdentity {s t : State} (h : Changes s t) : SameIdentity s t :=
  h.keep (P := SameIdentity s) (fun _ _ hc hs => hs.trans hc.sameIdentity) (.refl s)

/-- Settles O60: every change keeps the identity, and a write of ERR touches none of it. -/
theorem identityIsFixedForGood : Obligations.IdentityIsFixedForGood := by
  intro s t hstep
  have h : SameIdentity s t := by
    rcases step_changes hstep with ⟨w, rest, -, rfl⟩ | hchanges
    · exact .of_eq rfl rfl rfl rfl rfl rfl rfl
    · exact hchanges.sameIdentity
  exact ⟨h.params, h.numVoices, h.numGroups, h.descriptors, h.tables, h.binding⟩

end Sys2Proof.Machine
end

section
/-! The group counters (10_state.md R67 (b), (c); 41_voice.md R222): a change of a voice moves its group's
counter as it moves the number of the group's active voices. -/

namespace Sys2Proof.Machine

open Sys2Proof.Config

/-- 1 for a voice that is active in group g, 0 for every other. -/
def Voice.share (v : Voice) (g : ℕ) : ℕ := if v.active = true ∧ v.group.toNat = g then 1 else 0

theorem Voice.share_of_inactive {v : Voice} (h : v.active = false) (g : ℕ) : v.share g = 0 :=
  if_neg fun hv => absurd hv.1 (Bool.eq_false_iff.1 h)

theorem Voice.share_congr {v x : Voice} (hactive : x.active = v.active) (hgroup : x.group = v.group) (g : ℕ) :
    x.share g = v.share g := by
  rw [Voice.share, hactive, hgroup, ← Voice.share]

theorem Voice.share_of_active {v : Voice} (h : v.active = true) (g : ℕ) :
    v.share g = if v.group.toNat = g then 1 else 0 := by
  simp only [Voice.share, h, true_and]

/-- The number of a group's active voices follows a written voice. -/
theorem activeIn_setVoice {s : State} {v : ℕ} (x : Voice) (hv : v < s.voices.length) (g : ℕ) :
    activeIn (s.setVoice v x).voices g + (s.voice v).share g = activeIn s.voices g + x.share g := by
  have hold : s.voice v = s.voices[v] := List.getD_eq_getElem _ _ hv
  have hpos (h : (s.voice v).active = true ∧ (s.voice v).group.toNat = g) : 0 < activeIn s.voices g :=
    List.countP_pos_iff.2 ⟨_, List.getElem_mem hv, by simpa [← hold] using h⟩
  rw [State.setVoice_voices, activeIn, List.countP_set hv, ← hold, ← activeIn]
  simp only [Bool.and_eq_true, decide_eq_true_eq, Voice.share]
  by_cases hcounted : (s.voice v).active = true ∧ (s.voice v).group.toNat = g
  · have := hpos hcounted
    rw [if_pos hcounted]
    omega
  · rw [if_neg hcounted]
    omega

/-- The parts of a voice's coherence. -/
theorem Voice.coherent_iff (v : Voice) :
    v.coherent = true ↔ (v.active = true ↔ v.state ≠ .idle) ∧ v.state ≠ .illegal6 ∧ v.state ≠ .illegal7 ∧
      (v.active = true → v.bound = true) := by
  unfold Voice.coherent
  cases v.active <;> cases v.state <;> simp

/-- A voice in a legal state that is active exactly outside IDLE, and bound where active, is coherent. -/
theorem Voice.coherent_of_keeps {v x : Voice} (h : v.coherent = true) (hactive : x.active = v.active)
    (hstate : x.state = v.state) (hbound : x.bound = v.bound) : x.coherent = true := by
  rwa [Voice.coherent, hactive, hstate, hbound, ← Voice.coherent]

/-- An inactive voice in IDLE is coherent. -/
theorem Voice.coherent_of_idle {v : Voice} (hactive : v.active = false) (hstate : v.state = .idle) :
    v.coherent = true := by
  rw [Voice.coherent, hactive, hstate]
  rfl

/-- The states an active voice is in after its Process, if it is not cleared (41_voice.md R219). -/
theorem Voice.Advances.state {p : Params} {dt : F32} {x y : Voice} (h : x.Advances p dt y) :
    y.state = .attack ∨ y.state = .decay ∨ y.state = .sustain ∨ y.state = .release := by
  cases h
  case attack h =>
    unfold Voice.attackStep
    dsimp only
    split_ifs <;> simp [h]
  case decay h =>
    unfold Voice.decayStep
    dsimp only
    split_ifs <;> simp [h]
  case sustain h =>
    unfold Voice.sustainStep
    split_ifs <;> simp [h]
  case ramp h _ => exact .inr (.inr (.inr h))
  case hold h => exact .inr (.inr (.inr h))

/-- The counters after one counter is changed. -/
theorem getD_modify_count (counts : List Byte) (f : Byte → Byte) (i : ℕ) {k : ℕ} (hk : k < counts.length) :
    (counts.modify i f).getD k 0#8 = if i = k then f (counts.getD k 0#8) else counts.getD k 0#8 := by
  rw [List.getD_eq_getElem _ _ (by rwa [List.length_modify]), List.getD_eq_getElem _ _ hk, List.getElem_modify]

section counters
variable {s : State} (h : CountInv s)
include h

/-- Every voice that is read is coherent, also one beyond NUM_VOICES. -/
theorem CountInv.voice_coherent (v : ℕ) : (s.voice v).coherent = true := by
  by_cases hv : v < s.voices.length
  · rw [State.voice, List.getD_eq_getElem _ _ hv]
    exact h.coherent _ (List.getElem_mem hv)
  · rw [State.voice, List.getD_eq_default _ _ (Nat.le_of_not_lt hv)]
    decide

/-- The group of a bound voice exists. -/
theorem CountInv.voice_group {v : ℕ} (hbound : (s.voice v).bound = true) :
    (s.voice v).group.toNat < s.numGroups := by
  have hv := State.lt_of_bound hbound
  rw [State.voice, List.getD_eq_getElem _ _ hv] at hbound ⊢
  exact h.groups _ (List.getElem_mem hv) hbound

/-- An active voice is bound. -/
theorem CountInv.bound_of_active {v : ℕ} (hactive : (s.voice v).active = true) : (s.voice v).bound = true :=
  ((Voice.coherent_iff _).1 (h.voice_coherent v)).2.2.2 hactive

/-- A voice is written and the counters follow its share. -/
theorem CountInv.of_share {t : State} {v : ℕ} {x : Voice} (hvoices : t.voices = (s.setVoice v x).voices)
    (hgroups : t.numGroups = s.numGroups) (hx : x.coherent = true)
    (hbound : x.bound = true → x.group.toNat < s.numGroups)
    (hcounts : ∀ g, g < s.numGroups → v < s.voices.length → (t.groupCount.getD g 0#8).toNat + (s.voice v).share g =
      (s.groupCount.getD g 0#8).toNat + x.share g)
    (hbeyond : s.voices.length ≤ v → t.groupCount = s.groupCount) : CountInv t := by
  have hmem {y : Voice} (hy : y ∈ t.voices) : y ∈ s.voices ∨ y = x := by
    rw [hvoices] at hy
    exact List.mem_or_eq_of_mem_set hy
  refine ⟨?_, fun y hy => ?_, fun y hy hb => ?_, fun g hg => ?_⟩
  · rw [State.numVoices, hvoices, ← State.numVoices, State.setVoice_numVoices]
    exact h.voices
  · exact (hmem hy).elim (h.coherent y) fun e => e ▸ hx
  · rw [hgroups]
    exact (hmem hy).elim (fun hs => h.groups y hs hb) fun e => e ▸ hbound (e ▸ hb)
  · rw [hgroups] at hg
    have hold := h.counts g hg
    rw [hvoices]
    by_cases hv : v < s.voices.length
    · have hactive := activeIn_setVoice x hv g
      have hcount := hcounts g hg hv
      omega
    · rw [hbeyond (Nat.le_of_not_lt hv), State.setVoice_voices,
        List.set_eq_of_length_le (Nat.le_of_not_lt hv), hold]

/-- A written voice whose share is the old one's keeps the counters. -/
theorem CountInv.setVoice {v : ℕ} {x : Voice} (hx : x.coherent = true)
    (hbound : x.bound = true → x.group.toNat < s.numGroups) (hshare : ∀ g, x.share g = (s.voice v).share g) :
    CountInv (s.setVoice v x) :=
  h.of_share rfl rfl hx hbound (fun g _ _ => by rw [hshare, State.setVoice_groupCount]) fun _ => rfl

/-- A write that leaves a voice's activity, state, binding and group keeps the counters. -/
theorem CountInv.setVoice_keeps {v : ℕ} {x : Voice} (hactive : x.active = (s.voice v).active)
    (hstate : x.state = (s.voice v).state) (hbound : x.bound = (s.voice v).bound)
    (hgroup : x.group = (s.voice v).group) : CountInv (s.setVoice v x) :=
  h.setVoice (Voice.coherent_of_keeps (h.voice_coherent v) hactive hstate hbound)
    (fun hb => hgroup ▸ h.voice_group (hbound ▸ hb)) (Voice.share_congr hactive hgroup)

/-- No counter wraps: a counter is at most NUM_VOICES (00_scope.md R6). -/
theorem CountInv.count_le {g : ℕ} (hg : g < s.numGroups) : (s.groupCount.getD g 0#8).toNat ≤ maxVoices :=
  h.counts g hg ▸ List.countP_le_length.trans h.voices

/-- START counts the voice it activates (41_voice.md R202). -/
theorem CountInv.activate {v : ℕ} (hbound : (s.voice v).bound = true) (hactive : (s.voice v).active = false) :
    CountInv ((s.setVoice v
      { s.voice v with active := true, state := .start, trigEnd := false, peak := false }).incGroup
        (s.voice v).group) := by
  have hv := State.lt_of_bound hbound
  refine h.of_share rfl (s.incGroup_numGroups _) (by simp [Voice.coherent, hbound]) (fun _ => h.voice_group hbound)
    (fun g hg _ => ?_) fun hge => absurd hv (Nat.not_lt.2 hge)
  have hle : (s.groupCount.getD g 0#8).toNat ≤ 64 := h.count_le hg
  rw [Voice.share_of_inactive hactive, Voice.share_of_active rfl, State.incGroup_groupCount,
    State.setVoice_groupCount, getD_modify_count _ _ _ hg]
  split
  · rw [BitVec.toNat_add_of_lt]
    · rfl
    · simp only [BitVec.toNat_ofNat]
      omega
  · rfl

/-- Clear uncounts an active voice (41_voice.md R206). -/
theorem CountInv.leave {v : ℕ} {x : Voice} (hactive : (s.voice v).active = true) (hx : x.active = false)
    (hidle : x.state = .idle) (hbound : x.bound = (s.voice v).bound) (hgroup : x.group = (s.voice v).group) :
    CountInv ((s.decGroup (s.voice v).group).setVoice v x) := by
  have hv := State.lt_of_active hactive
  refine h.of_share rfl (s.decGroup_numGroups _) (Voice.coherent_of_idle hx hidle)
    (fun hb => hgroup ▸ h.voice_group (hbound ▸ hb)) (fun g hg _ => ?_) fun hge => absurd hv (Nat.not_lt.2 hge)
  have hpos : (s.voice v).share g ≤ (s.groupCount.getD g 0#8).toNat := by
    have := activeIn_setVoice x hv g
    rw [Voice.share_of_inactive hx] at this
    rw [h.counts g hg]
    omega
  rw [State.setVoice_groupCount, State.decGroup_groupCount, getD_modify_count _ _ _ hg,
    Voice.share_of_inactive hx]
  rw [Voice.share_of_active hactive] at hpos ⊢
  split
  next hsame =>
    rw [if_pos hsame] at hpos
    have hone : 1#8 ≤ s.groupCount.getD g 0#8 := BitVec.le_def.2 hpos
    rw [BitVec.toNat_sub_of_le hone]
    exact Nat.sub_add_cancel hpos
  next => rfl

end counters

/-- Every change keeps the counters' invariant. -/
theorem Change.countInv {s t : State} (hc : Change s t) (h : CountInv s) : CountInv t := by
  cases hc with
  | writeVoice v r w x hx =>
    obtain ⟨hactive, hstate, hbound, -, hgroup, -⟩ := writeVoiceReg_keeps hx
    exact h.setVoice_keeps hactive hstate hbound hgroup
  | bind v group channel hgroup hfree =>
    have hinactive : (s.voice v).active = false :=
      Bool.eq_false_iff.2 fun ha => absurd (h.bound_of_active ha) (Bool.eq_false_iff.1 hfree)
    obtain ⟨hactive, h6, h7, -⟩ := (Voice.coherent_iff _).1 (h.voice_coherent v)
    refine h.setVoice ((Voice.coherent_iff _).2 ⟨hactive, h6, h7, fun _ => rfl⟩) (fun _ => hgroup) fun g => ?_
    refine Eq.trans (Voice.share_of_inactive ?_ g) (Voice.share_of_inactive hinactive g).symm
    exact hinactive
  | activate v hbound hactive => exact h.activate hbound hactive
  | trigger v => exact h.setVoice_keeps rfl rfl rfl rfl
  | advance v y hactive hy =>
    obtain ⟨eactive, ebound, -, egroup, -⟩ := (s.voice v).enter_identity s.params
    obtain ⟨yactive, ybound, -, ygroup, -⟩ := hy.keeps
    have hgroup : y.group = (s.voice v).group := ygroup.trans egroup
    have hyactive : y.active = true := (yactive.trans eactive).trans hactive
    have hybound : y.bound = true := (ybound.trans ebound).trans (h.bound_of_active hactive)
    refine h.setVoice ((Voice.coherent_iff _).2 ?_) (fun _ => ?_)
      (Voice.share_congr (hyactive.trans hactive.symm) hgroup)
    · simp only [Voice.markDirty, hyactive, hybound]
      rcases hy.state with hst | hst | hst | hst <;> simp [hst]
    · exact hgroup ▸ h.voice_group (h.bound_of_active hactive)
  | leave v timer hactive =>
    obtain ⟨-, ebound, -, egroup, -⟩ := (s.voice v).enter_identity s.params
    rw [egroup]
    exact h.leave hactive rfl rfl ebound egroup
  | clear v hinactive =>
    refine h.setVoice (Voice.coherent_of_idle rfl rfl) (fun hb => h.voice_group hb) fun g => ?_
    exact (Voice.share_of_inactive rfl g).trans (Voice.share_of_inactive hinactive g).symm
  | sent v code => exact h.setVoice_keeps rfl rfl rfl rfl
  | _ => exact ⟨h.voices, h.coherent, h.groups, h.counts⟩

/-- Settles O54: every change keeps the counters' invariant, and a write of ERR touches no voice. -/
theorem everyStepKeepsTheGroupCounters : Obligations.EveryStepKeepsTheGroupCounters := by
  intro s t h hstep
  rcases step_changes hstep with ⟨w, rest, -, rfl⟩ | hchanges
  · exact ⟨h.voices, h.coherent, h.groups, h.counts⟩
  · exact hchanges.keep (fun _ _ => Change.countInv) h

end Sys2Proof.Machine
end

section
/-! The tables (10_state.md R63 to R65, R67 (e), (f); 43_aal.md R281, R286, R293): BEGIN builds sound boards
and their devices, and every later write of a board keeps it sound and in its place. -/

namespace Sys2Proof.Machine

open Sys2Proof.Config

/-! ### What BEGIN builds -/

/-- The one count of a descriptor is not 0 (30_encoding.md R154 (d)). -/
theorem capability_ne_zero {d : Descriptor} {n : Byte} {k : Kind} (h : d.capability = some (n, k)) : n ≠ 0#8 := by
  unfold Descriptor.capability at h
  split at h <;> cases h
  next hn _ _ => simpa using hn
  next _ hn _ => simpa using hn
  next _ _ hn => simpa using hn

/-- A board that BEGIN builds is sound (43_aal.md R281; 30_encoding.md R154). -/
theorem board?_sound {d : Descriptor} {bd : Board} (h : d.board? = some bd) : bd.Sound := by
  unfold Descriptor.board? at h
  split at h
  next cluster family n kind _ _ hcapability =>
    split at h <;> cases h
    next hwell =>
      simp only [Bool.and_eq_true, decide_eq_true_eq] at hwell
      obtain ⟨⟨⟨⟨hslice, -⟩, hrange⟩, -⟩, hfits⟩ := hwell
      have hn : n.toNat ≠ 0 := fun hzero => capability_ne_zero hcapability (BitVec.eq_of_toNat_eq hzero)
      have hnch : (n.setWidth 5).toNat = n.toNat := by
        rw [BitVec.toNat_setWidth, Nat.mod_eq_of_lt (by unfold maxCh at hrange; omega)]
      exact {
        channels := hnch.symm ▸ ⟨Nat.one_le_iff_ne_zero.2 hn, hrange⟩
        slots := List.length_replicate ..
        fits := hfits
        root := by
          rintro rfl
          simpa using hslice
        dirty := fun ch hch => by simp at hch
        analogIn := fun _ => ⟨rfl, fun x hx => List.eq_of_mem_replicate hx⟩
        digital := fun _ x hx => by rw [List.eq_of_mem_replicate hx]; decide }
  next => cases h

/-- BEGIN builds one sound board of each descriptor (43_aal.md R281). -/
theorem buildBoards_sound {i : ℕ} {ds : List Descriptor} {bs : List Board} (h : buildBoards i ds = .ok bs) :
    bs.length = ds.length ∧ ∀ bd ∈ bs, bd.Sound := by
  induction ds generalizing i bs with
  | nil =>
    cases h
    exact ⟨rfl, fun _ hbd => absurd hbd List.not_mem_nil⟩
  | cons d rest ih =>
    unfold buildBoards at h
    split at h
    next => cases h
    next bd hbd =>
      split at h <;> cases h
      next bds hrest =>
        obtain ⟨hlen, hsound⟩ := ih hrest
        refine ⟨by rw [List.length_cons, List.length_cons, hlen], fun x hx => ?_⟩
        rcases List.mem_cons.1 hx with rfl | hx
        · exact board?_sound hbd
        · exact hsound x hx

/-- The configuration table has at most MAX_BOARDS entries (43_aal.md R281). -/
theorem length_configTable_le (t : List Descriptor) : (configTable t).length ≤ t.length :=
  (List.takeWhile_sublist _).length_le

/-- A built device is a channel of its board (43_aal.md R286). -/
theorem mem_buildDevices {p : Params} {b : ℕ} {bs : List Board} {x : Device} (hx : x ∈ buildDevices p b bs) :
    ∃ i bd ch, bs[i]? = some bd ∧ ch < bd.nch.toNat ∧ x.board = BitVec.ofNat 8 (b + i) ∧
      x.channel = BitVec.ofNat 4 ch ∧ x.kind = bd.kind := by
  induction bs generalizing b with
  | nil => cases hx
  | cons bd rest ih =>
    rcases List.mem_append.1 hx with hx | hx
    · obtain ⟨ch, hch, rfl⟩ := List.mem_map.1 hx
      exact ⟨0, bd, ch, rfl, List.mem_range.1 hch, rfl, rfl, rfl⟩
    · obtain ⟨i, bd', ch, hi, hch, hboard, hrest⟩ := ih hx
      exact ⟨i + 1, bd', ch, hi, hch, by rw [hboard, Nat.add_assoc, Nat.add_comm 1], hrest⟩

/-- The devices depend on the boards' locations alone (43_aal.md R286). -/
theorem buildDevices_congr (p : Params) {b : ℕ} {bs cs : List Board}
    (h : bs.map Board.location = cs.map Board.location) : buildDevices p b bs = buildDevices p b cs := by
  induction bs generalizing b cs with
  | nil => rw [List.map_eq_nil_iff.1 h.symm]
  | cons bd rest ih =>
    cases cs with
    | nil => cases h
    | cons cd crest =>
      obtain ⟨hlocation, hrest⟩ := List.cons.inj h
      simp only [Board.location, Prod.mk.injEq] at hlocation
      obtain ⟨-, -, -, -, hnch, hkind⟩ := hlocation
      rw [buildDevices, buildDevices, ih hrest, boardDevices, boardDevices, hnch, hkind]

/-! ### Writes of a board -/

/-- A buffered write keeps a board sound (43_aal.md R289 to R291). -/
theorem Board.Sound.write {bd : Board} (h : bd.Sound) {ch : ℕ} (hch : ch < bd.nch.toNat) {value : Half}
    (hvalue : bd.kind = .ao ∨ bd.kind = .do_ ∧ value.toNat ≤ 1) : (bd.write ch value).Sound where
  channels := h.channels
  slots := (List.length_set ..).trans h.slots
  fits := h.fits
  root := h.root
  dirty c hc := by
    rw [Board.write, BitVec.getLsbD_or, Bool.or_eq_true] at hc
    rcases hc with hc | hc
    · exact h.dirty c hc
    · simp only [BitVec.getLsbD_shiftLeft, BitVec.getLsbD_one, Bool.and_eq_true, Bool.not_eq_true',
        decide_eq_true_eq, decide_eq_false_iff_not] at hc
      have hnch : (bd.write ch value).nch = bd.nch := rfl
      rw [hnch]
      omega
  analogIn hk := by
    have hk : bd.kind = .ai := hk
    simp [hk] at hvalue
  digital hk x hx := by
    have hk : bd.kind = .do_ := hk
    rcases List.mem_or_eq_of_mem_set hx with hx | rfl
    · exact h.digital hk x hx
    · exact hvalue.elim (fun hao => by cases hk.symm.trans hao) And.right

/-- VALID is no part of a board's soundness. -/
theorem Board.Sound.withValid {bd : Board} (h : bd.Sound) (ok : Bool) : { bd with valid := ok }.Sound :=
  ⟨h.channels, h.slots, h.fits, h.root, h.dirty, h.analogIn, h.digital⟩

/-- A flushed board is sound (43_aal.md R292). -/
theorem Board.Sound.flushed {bd : Board} (h : bd.Sound) : { bd with dirty := 0#16 }.Sound :=
  ⟨h.channels, h.slots, h.fits, h.root, fun ch hch => by simp at hch, fun hk => ⟨rfl, (h.analogIn hk).2⟩, h.digital⟩

/-- An emptied board is sound (43_aal.md R298). -/
theorem Board.Sound.emptied {bd : Board} (h : bd.Sound) :
    { bd with buf := List.replicate maxCh 0#16, dirty := 0#16 }.Sound :=
  ⟨h.channels, List.length_replicate .., h.fits, h.root, fun ch hch => by simp at hch,
    fun _ => ⟨rfl, fun _ hx => List.eq_of_mem_replicate hx⟩,
    fun _ x hx => by rw [List.eq_of_mem_replicate hx]; decide⟩

/-! ### The invariant -/

section tables
variable {s : State} (h : TableInv s)
include h

/-- A device names an existing channel of an existing board of its kind (10_state.md R65). -/
theorem TableInv.device {d : ℕ} (hd : d < s.numDevices) :
    (s.device d).board.toNat < s.numBoards ∧ (s.board (s.device d).board.toNat).kind = (s.device d).kind ∧
      (s.device d).channel.toNat < (s.board (s.device d).board.toNat).nch.toNat := by
  have hmem : s.device d ∈ buildDevices s.params 0 s.boards := by
    rw [← h.devices, State.device, List.getD_eq_getElem _ _ hd]
    exact List.getElem_mem hd
  obtain ⟨i, bd, ch, hi, hch, hboard, hchannel, hkind⟩ := mem_buildDevices hmem
  obtain ⟨hlt, hbd⟩ := List.getElem?_eq_some_iff.1 hi
  have hcount : s.boards.length ≤ 16 := h.count
  obtain ⟨-, hnch⟩ := (h.boards bd (hbd ▸ List.getElem_mem hlt)).channels
  have hindex : (s.device d).board.toNat = i := by
    rw [hboard, Nat.zero_add, BitVec.toNat_ofNat]
    omega
  have hread : s.board i = bd := by rw [State.board, List.getD_eq_getElem _ _ hlt, hbd]
  rw [hindex, hread, hchannel, hkind, BitVec.toNat_ofNat]
  exact ⟨hlt, rfl, (Nat.mod_le _ _).trans_lt hch⟩

/-- A board below NBOARDS is sound. -/
theorem TableInv.board_sound {b : ℕ} (hb : b < s.numBoards) : (s.board b).Sound := by
  rw [State.board, List.getD_eq_getElem _ _ hb]
  exact h.boards _ (List.getElem_mem hb)

/-- A board written in its place with a sound one keeps the tables. -/
theorem TableInv.setBoard {b : ℕ} {x : Board} (hx : b < s.numBoards → x.Sound)
    (hlocation : x.location = (s.board b).location) : TableInv (s.setBoard b x) where
  descriptors := h.descriptors
  count := by
    rw [State.setBoard_numBoards]
    exact h.count
  boards bd hbd := by
    by_cases hb : b < s.numBoards
    · exact (List.mem_or_eq_of_mem_set hbd).elim (h.boards bd) fun e => e ▸ hx hb
    · rw [State.setBoard_boards, List.set_eq_of_length_le (Nat.le_of_not_lt hb)] at hbd
      exact h.boards bd hbd
  devices := h.devices.trans (buildDevices_congr _ (map_setBoard _ s b hlocation).symm)
  begun hb := by
    rw [State.setBoard_boards, h.begun hb]
    rfl
  awaiting := h.awaiting

/-- BEGIN builds the tables of a state that has none (43_aal.md R280, R281, R286). -/
theorem TableInv.withTables {boards : List Board} (hbegun : s.begun = false)
    (hboards : buildBoards 0 (configTable s.table) = .ok boards) : TableInv (s.withTables boards) where
  descriptors := h.descriptors
  count := (buildBoards_sound hboards).1.le.trans ((length_configTable_le _).trans h.descriptors.le)
  boards := (buildBoards_sound hboards).2
  devices := rfl
  begun hb := by cases hb
  awaiting hawaiting := by
    obtain ⟨hlt, -⟩ := h.awaiting hawaiting
    rw [State.numDevices, h.devices, h.begun hbegun] at hlt
    exact absurd hlt (Nat.not_lt_zero _)

end tables

/-- Every change keeps the tables' invariant. -/
theorem Change.tableInv {s t : State} (hc : Change s t) (h : TableInv s) : TableInv t := by
  cases hc with
  | descriptor i f =>
    exact ⟨(List.length_modify ..).trans h.descriptors, h.count, h.boards, h.devices, h.begun, h.awaiting⟩
  | await d hd hkind => exact ⟨h.descriptors, h.count, h.boards, h.devices, h.begun, fun _ => ⟨hd, hkind⟩⟩
  | deliver raw => exact ⟨h.descriptors, h.count, h.boards, h.devices, h.begun, fun ha => by cases ha⟩
  | output d k value hd hkind hvalue =>
    obtain ⟨hboard, hboardKind, hchannel⟩ := h.device hd
    refine h.setBoard (fun hb => (h.board_sound hb).write hchannel ?_) rfl
    rwa [hboardKind, hkind]
  | validity b ok => exact h.setBoard (fun hb => (h.board_sound hb).withValid ok) rfl
  | flushed b => exact h.setBoard (fun hb => (h.board_sound hb).flushed) rfl
  | emptied b => exact h.setBoard (fun hb => (h.board_sound hb).emptied) rfl
  | tables boards hbegun hboards => exact h.withTables hbegun hboards
  | _ => exact ⟨h.descriptors, h.count, h.boards, h.devices, h.begun, h.awaiting⟩

/-- Settles O56: every change keeps the tables' invariant, and a write of ERR touches no table. -/
theorem everyStepKeepsTheTables : Obligations.EveryStepKeepsTheTables := by
  intro s t h hstep
  rcases step_changes hstep with ⟨w, rest, -, rfl⟩ | hchanges
  · exact ⟨h.descriptors, h.count, h.boards, h.devices, h.begun, h.awaiting⟩
  · exact hchanges.keep (fun _ _ => Change.tableInv) h

end Sys2Proof.Machine
end

section
/-! Rounding keeps bounds (00_scope.md R10): a result lies on the side of a finite value on which the exact one
lies, so the ramps of 41_voice.md R209 to R212 stay finite. -/

namespace Sys2Proof.Machine

open Sys2Proof.Config

/-! ### The legal sets in units -/

/-- 1.0 is 2^149 units, by its magnitude bits. -/
theorem magUnits_one : magUnits 0x3F800000 = 2 ^ 149 := by
  have hone : fUnits fOne = 2 ^ 149 := by rw [← natAbs_fInt, fInt_fOne]; rfl
  rwa [fUnits_eq] at hone

/-- A magnitude is compared as its bits. -/
theorem natAbs_fInt_le_iff (a b : F32) : (fInt a).natAbs ≤ (fInt b).natAbs ↔ fMag a ≤ fMag b := by
  rw [natAbs_fInt, natAbs_fInt, fUnits_eq, fUnits_eq, magUnits_strictMono.le_iff_le]

/-- [-1, 1] in units (42_driver.md R261). -/
theorem inUnitRange_iff (w : F32) : inUnitRange w = true ↔ |fInt w| ≤ 2 ^ 149 := by
  rw [Int.abs_eq_natAbs, natAbs_fInt, fUnits_eq, show (2 ^ 149 : ℤ) = (2 ^ 149 : ℕ) by norm_cast, Nat.cast_le,
    ← magUnits_one, magUnits_strictMono.le_iff_le, decide_eq_true_iff, fMag]

/-- A value no larger than a finite one is finite. -/
theorem fFinite_of_abs_le {a b : F32} (hb : fFinite b = true) (h : |fInt a| ≤ |fInt b|) : fFinite a = true := by
  rw [Int.abs_eq_natAbs, Int.abs_eq_natAbs, Nat.cast_le, natAbs_fInt_le_iff] at h
  rw [fFinite_iff] at hb ⊢
  exact h.trans_lt hb

theorem fFinite_of_inUnitRange {w : F32} (h : inUnitRange w = true) : fFinite w = true := by
  refine fFinite_of_abs_le (b := fOne) (by decide) ?_
  rw [fInt_fOne]
  exact (inUnitRange_iff w).1 h

/-- Finite values are below the overflow bound. -/
theorem abs_fInt_lt_overflowBound {w : F32} (h : fFinite w = true) : |fInt w| < overflowBound := by
  have hmag : fMag w ≤ infMag - 1 := Nat.le_sub_one_of_lt ((fFinite_iff w).1 h)
  have hunits := magUnits_strictMono.monotone hmag
  rw [magUnits_maxFinite] at hunits
  rw [Int.abs_eq_natAbs, natAbs_fInt, fUnits_eq, overflowBound_eq]
  calc (magUnits (fMag w) : ℤ) ≤ ((2 ^ 25 - 2) * 2 ^ 252 : ℕ) := by exact_mod_cast hunits
    _ < (2 ^ 25 - 1) * 2 ^ 252 := by norm_num

/-- The legal times (40_host_access.md R184). -/
theorem legalTime_iff (w : F32) : legalTime w = true ↔ fFinite w = true ∧ 0 ≤ fInt w := by
  rw [legalTime, Bool.and_eq_true, and_congr_right_iff]
  intro h
  rw [fge_iff (fOrdered_of_not_nan (fNaN_of_finite h) (by decide)), fInt_fZero]

/-- The legal levels (40_host_access.md R184). -/
theorem legalLevel_iff (w : F32) : legalLevel w = true ↔ fFinite w = true ∧ 0 ≤ fInt w ∧ fInt w ≤ 2 ^ 149 := by
  rw [legalLevel, Bool.and_assoc, Bool.and_eq_true, and_congr_right_iff, Bool.and_eq_true]
  intro h
  rw [fge_iff (fOrdered_of_not_nan (fNaN_of_finite h) (by decide)),
    fle_iff (fOrdered_of_not_nan (fNaN_of_finite h) (by decide)), fInt_fZero, fInt_fOne]

/-! ### Rounding -/

section rounding
variable {w c : F32} {X : ℤ} {den : ℕ} (h : RoundsTo w X den)
include h

/-- A rounded value is no NaN. -/
theorem RoundsTo.not_nan : fNaN w = false := by
  rcases lt_or_ge |X| (overflowBound * den) with hlt | hge
  · exact fNaN_of_finite (h.finite hlt)
  · rw [h.overflow hge, infinityOf]
    split <;> decide

/-- A rounded value is finite, or an infinity of the exact value's sign. -/
theorem RoundsTo.finite_or_infinite : fFinite w = true ∨
    (overflowBound * den ≤ X ∧ overflowBound ≤ fInt w) ∨ (X ≤ -(overflowBound * den) ∧ fInt w ≤ -overflowBound) := by
  rcases lt_or_ge |X| (overflowBound * den) with hlt | hge
  · exact .inl (h.finite hlt)
  · have hw := h.overflow hge
    rw [infinityOf] at hw
    split at hw
    next hneg =>
      rw [abs_of_neg hneg] at hge
      exact .inr (.inr ⟨by omega, hw ▸ by decide +kernel⟩)
    next hpos =>
      rw [abs_of_nonneg (not_lt.1 hpos)] at hge
      exact .inr (.inl ⟨hge, hw ▸ by decide +kernel⟩)

/-- A rounded value is at most a finite bound of the exact one. -/
theorem RoundsTo.le (hden : 0 < den) (hc : fFinite c = true) (hX : X ≤ fInt c * den) : fInt w ≤ fInt c := by
  have hden : (0 : ℤ) < den := by exact_mod_cast hden
  have hbound := abs_lt.1 (abs_fInt_lt_overflowBound hc)
  rcases h.finite_or_infinite with hfin | ⟨hover, -⟩ | ⟨-, hw⟩
  · by_contra! hgt
    have hscaled : fInt c * den < fInt w * den := mul_lt_mul_of_pos_right hgt hden
    obtain ⟨hnear, -⟩ := h.nearest hfin c
    rw [abs_of_nonneg (by omega), abs_of_nonneg (by omega)] at hnear
    omega
  · have := mul_lt_mul_of_pos_right hbound.2 hden
    omega
  · omega

/-- A rounded value is at least a finite bound of the exact one. -/
theorem RoundsTo.ge (hden : 0 < den) (hc : fFinite c = true) (hX : fInt c * den ≤ X) : fInt c ≤ fInt w := by
  have hden : (0 : ℤ) < den := by exact_mod_cast hden
  have hbound := abs_lt.1 (abs_fInt_lt_overflowBound hc)
  rcases h.finite_or_infinite with hfin | ⟨-, hw⟩ | ⟨hover, -⟩
  · by_contra! hgt
    have hscaled : fInt w * den < fInt c * den := mul_lt_mul_of_pos_right hgt hden
    obtain ⟨hnear, -⟩ := h.nearest hfin c
    rw [abs_of_nonpos (by omega), abs_of_nonpos (by omega)] at hnear
    omega
  · omega
  · have := mul_lt_mul_of_pos_right hbound.1 hden
    rw [neg_mul] at this
    omega

/-- A rounded value whose exact one is in [-1, 1] is too. -/
theorem RoundsTo.inUnitRange (hden : 0 < den) (hX : |X| ≤ 2 ^ 149 * den) : inUnitRange w = true := by
  obtain ⟨hlow, hhigh⟩ := abs_le.1 hX
  rw [inUnitRange_iff, abs_le]
  constructor
  · have := h.ge (c := fNeg fOne) hden (by decide) (by rwa [fInt_fNeg, fInt_fOne, neg_mul])
    rwa [fInt_fNeg, fInt_fOne] at this
  · have := h.le (c := fOne) hden (by decide) (by rwa [fInt_fOne])
    rwa [fInt_fOne] at this

end rounding

/-! ### The arithmetic of the ramps -/

/-- clamp01 makes a level of every number (00_scope.md R10). -/
theorem legalLevel_clamp01 {x : F32} (hx : fNaN x = false) : legalLevel (clamp01 x) = true := by
  rcases lt_or_ge (fInt x) 0 with hneg | hpos
  · rw [clamp01_of_neg hx hneg]
    decide
  · rcases lt_or_ge (2 ^ 149) (fInt x) with hbig | hsmall
    · rw [clamp01_of_one_lt hx hbig]
      decide
    · rw [clamp01_of_level (.inr ⟨hpos, hsmall⟩), legalLevel_iff]
      have hrange : Config.inUnitRange x = true := (inUnitRange_iff x).2 (abs_le.2 ⟨by omega, hsmall⟩)
      exact ⟨fFinite_of_inUnitRange hrange, hpos, hsmall⟩

/-- The difference of two levels is a legal delta (41_voice.md R207, R208, R209). -/
theorem inUnitRange_fsub {a b : F32} (ha : legalLevel a = true) (hb : legalLevel b = true) :
    inUnitRange (fsub a b) = true := by
  obtain ⟨hafin, ha0, ha1⟩ := (legalLevel_iff a).1 ha
  obtain ⟨hbfin, hb0, hb1⟩ := (legalLevel_iff b).1 hb
  refine (roundsTo_fsub hafin hbfin).inUnitRange one_pos ?_
  rw [Nat.cast_one, mul_one, abs_le]
  omega

/-- A ramp whose timer is within its target is a level (41_voice.md R209, R210, R212). -/
theorem legalLevel_rampLevel {base timer target delta : F32} (hbase : legalLevel base = true)
    (htimer : fFinite timer = true) (htarget : fFinite target = true) (htimer0 : 0 ≤ fInt timer)
    (hle : fInt timer ≤ fInt target) (hpos : 0 < fInt target) (hdelta : inUnitRange delta = true) :
    legalLevel (rampLevel base timer target delta) = true := by
  have hquotient : inUnitRange (fdiv timer target) = true := by
    have hunits : (fUnits target : ℤ) = fInt target := by rw [← natAbs_fInt]; omega
    refine (roundsTo_fdiv htimer htarget hpos.ne').inUnitRange (fUnits_pos hpos.ne') ?_
    rw [Int.sign_eq_one_of_pos hpos, mul_one, hunits, abs_of_nonneg (by positivity), mul_comm]
    exact mul_le_mul_of_nonneg_left hle (by positivity)
  have hproduct : inUnitRange (fmul (fdiv timer target) delta) = true := by
    refine (roundsTo_fmul (fFinite_of_inUnitRange hquotient) (fFinite_of_inUnitRange hdelta)).inUnitRange
      (by decide) ?_
    rw [cast_one_shiftLeft_149, abs_mul]
    exact mul_le_mul ((inUnitRange_iff _).1 hquotient) ((inUnitRange_iff _).1 hdelta) (abs_nonneg _) (by positivity)
  have hbase := (legalLevel_iff base).1 hbase
  exact legalLevel_clamp01 (roundsTo_fadd hbase.1 (fFinite_of_inUnitRange hproduct)).not_nan

/-- The sum of two legal times is a number that is not negative, maybe infinite. -/
theorem fadd_legalTime {a b : F32} (ha : legalTime a = true) (hb : legalTime b = true) :
    fNaN (fadd a b) = false ∧ 0 ≤ fInt (fadd a b) := by
  obtain ⟨hafin, ha0⟩ := (legalTime_iff a).1 ha
  obtain ⟨hbfin, hb0⟩ := (legalTime_iff b).1 hb
  have hround := roundsTo_fadd hafin hbfin
  refine ⟨hround.not_nan, ?_⟩
  have := hround.ge (c := fZero) one_pos (by decide) (by rw [fInt_fZero]; omega)
  rwa [fInt_fZero] at this

/-- A time counted down is a number that is not larger, maybe negative or infinite. -/
theorem fsub_legalTime {a b : F32} (ha : fNaN a = false) (hb : legalTime b = true) :
    fNaN (fsub a b) = false ∧ fInt (fsub a b) ≤ fInt a := by
  obtain ⟨hbfin, hb0⟩ := (legalTime_iff b).1 hb
  by_cases hafin : fFinite a = true
  · have hround := roundsTo_fsub hafin hbfin
    exact ⟨hround.not_nan, hround.le one_pos hafin (by rw [Nat.cast_one, mul_one]; omega)⟩
  · have hinf : fInf a = true := by
      rw [fFinite_iff] at hafin
      rw [Bool.eq_false_iff, ne_eq, fNaN_iff] at ha
      rw [fInf_iff]
      omega
    have hsame : fsub a b = a := by
      rw [fsub, ha, fNaN_of_finite hbfin, addNumbers, hinf, fInf_of_finite ((fFinite_fNeg b).trans hbfin)]
      rfl
    rw [hsame]
    exact ⟨ha, le_rfl⟩

end Sys2Proof.Machine
end

section
/-! The levels (10_state.md R67 (a); 41_voice.md R220, R221): every change of a voice keeps its f32 registers in
their legal sets and leaves a ramp as the ramp's entry does. -/

namespace Sys2Proof.Machine

open Sys2Proof.Config

/-! ### Comparisons of numbers -/

/-- A true fle compares two numbers. -/
theorem of_fle {a b : F32} (h : fle a b = true) : fNaN a = false ∧ fNaN b = false ∧ fInt a ≤ fInt b := by
  have hordered : fOrdered a b = true := (Bool.and_eq_true_iff.1 h).1
  obtain ⟨ha, hb⟩ := Bool.and_eq_true_iff.1 hordered
  exact ⟨by simpa using ha, by simpa using hb, (fle_iff hordered).1 h⟩

/-- A legal time is a number. -/
theorem fNaN_of_legalTime {w : F32} (h : legalTime w = true) : fNaN w = false :=
  fNaN_of_finite ((legalTime_iff w).1 h).1

/-- A legal time is at most itself. -/
theorem fle_self_of_legalTime {w : F32} (h : legalTime w = true) : fle w w = true :=
  (fle_iff (fOrdered_of_not_nan (fNaN_of_legalTime h) (fNaN_of_legalTime h))).2 le_rfl

/-- A number between 0.0 and a legal time is a legal time. -/
theorem legalTime_of_le {a b : F32} (hb : legalTime b = true) (h0 : 0 ≤ fInt a) (hle : fInt a ≤ fInt b) :
    legalTime a = true := by
  obtain ⟨hbfin, hb0⟩ := (legalTime_iff b).1 hb
  refine (legalTime_iff a).2 ⟨fFinite_of_abs_le hbfin ?_, h0⟩
  rwa [abs_of_nonneg h0, abs_of_nonneg hb0]

/-- A timer counted down from within its target, while it is above a snap threshold, is a legal time within the
target, which is not 0 (41_voice.md R210, R212). -/
theorem countdown {timer target dt snap : F32} (hle : fle timer target = true) (htarget : legalTime target = true)
    (hdt : legalTime dt = true) (hsnap : legalTime snap = true) (hgt : fgt (fsub timer dt) snap = true) :
    legalTime (fsub timer dt) = true ∧ fInt (fsub timer dt) ≤ fInt target ∧ 0 < fInt target := by
  obtain ⟨htimer, -, hle⟩ := of_fle hle
  obtain ⟨hnan, hdown⟩ := fsub_legalTime htimer hdt
  obtain ⟨-, hsnap0⟩ := (legalTime_iff snap).1 hsnap
  have hpos := (fgt_iff (fOrdered_of_not_nan hnan (fNaN_of_legalTime hsnap))).1 hgt
  exact ⟨legalTime_of_le htarget (by omega) (by omega), by omega, by omega⟩

/-- A timer counted down from within its target stays within it. -/
theorem fle_countdown {timer target dt : F32} (hle : fle timer target = true) (hdt : legalTime dt = true) :
    fle (fsub timer dt) target = true := by
  obtain ⟨htimer, htarget, hle⟩ := of_fle hle
  obtain ⟨hnan, hdown⟩ := fsub_legalTime htimer hdt
  exact (fle_iff (fOrdered_of_not_nan hnan htarget)).2 (hdown.trans hle)

/-! ### One voice -/

section levels
variable {v : Voice} (h : v.Levels)
include h

/-- START's entry sets up the attack ramp (41_voice.md R207). -/
theorem Voice.Levels.startEntry (p : Params) : (v.startEntry p).Levels :=
  { h with
    susCap := h.sustain
    attack := fun _ => ⟨(by decide : legalTime fZero = true), h.attackMs, inUnitRange_fsub h.top h.bottom⟩
    decay := fun hst => by cases hst
    release := fun hst => by cases hst }

/-- The trigger end sets up the release ramp (41_voice.md R208). -/
theorem Voice.Levels.triggerEnd : v.triggerEnd.Levels := by
  unfold Voice.triggerEnd
  split
  · exact { h with }
  · exact
      { h with
        attack := fun hst => by cases hst
        decay := fun hst => by cases hst
        release := fun _ => ⟨h.releaseMs, fle_self_of_legalTime h.releaseMs, inUnitRange_fsub h.current h.bottom⟩ }

theorem Voice.Levels.enter (p : Params) : (v.enter p).Levels := by
  unfold Voice.enter
  dsimp only
  split_ifs
  · exact (h.startEntry p).triggerEnd
  · exact h.startEntry p
  · exact h.triggerEnd
  · exact h

/-- AttackStep: the timer is below its target, or the level is TOP (41_voice.md R209). -/
theorem Voice.Levels.attackStep {dt : F32} (hdt : legalTime dt = true) (hst : v.state = .attack) :
    (v.attackStep dt).Levels := by
  obtain ⟨htimer, htarget, hdelta⟩ := h.attack hst
  obtain ⟨hnan, hpos⟩ := fadd_legalTime htimer hdt
  unfold Voice.attackStep
  dsimp only
  split
  · split
    · exact
        { h with
          current := h.top
          attack := fun hst => by cases hst
          decay := fun hst => by cases hst
          release := fun hst => by cases hst }
    · exact
        { h with
          current := h.top
          attack := fun hst => by cases hst
          decay := fun _ =>
            ⟨h.decayMs, h.decayMs, fle_self_of_legalTime h.decayMs, inUnitRange_fsub h.top h.susCap⟩
          release := fun hst => by cases hst }
  next hbefore =>
    rw [fge_iff (fOrdered_of_not_nan hnan (fNaN_of_legalTime htarget)), not_le] at hbefore
    have hnext := legalTime_of_le htarget hpos hbefore.le
    exact
      { h with
        current := legalLevel_rampLevel h.bottom ((legalTime_iff _).1 hnext).1 ((legalTime_iff _).1 htarget).1 hpos
          hbefore.le (hpos.trans_lt hbefore) hdelta
        attack := fun _ => ⟨hnext, htarget, hdelta⟩
        decay := fun hd => by cases hst.symm.trans hd
        release := fun hr => by cases hst.symm.trans hr }

/-- DecayStep: the timer is between the snap threshold and its target, or the level is SUSCAP
(41_voice.md R210). -/
theorem Voice.Levels.decayStep {p : Params} {dt : F32} (hdt : legalTime dt = true)
    (hsnap : legalTime p.decaySnapMs = true) (hst : v.state = .decay) : (v.decayStep p dt).Levels := by
  obtain ⟨-, htarget, hle, hdelta⟩ := h.decay hst
  unfold Voice.decayStep
  dsimp only
  split
  next habove =>
    obtain ⟨hnext, hwithin, hpos⟩ := countdown hle htarget hdt hsnap habove
    obtain ⟨hnextfin, hnext0⟩ := (legalTime_iff _).1 hnext
    exact
      { h with
        current := legalLevel_rampLevel h.susCap hnextfin ((legalTime_iff _).1 htarget).1 hnext0 hwithin hpos hdelta
        attack := fun ha => by cases hst.symm.trans ha
        decay := fun _ => ⟨hnext, htarget, fle_countdown hle hdt, hdelta⟩
        release := fun hr => by cases hst.symm.trans hr }
  next =>
    exact
      { h with
        current := h.susCap
        attack := fun hst => by cases hst
        decay := fun hst => by cases hst
        release := fun hst => by cases hst }

/-- SustainStep answers the old level or TOP (41_voice.md R211). -/
theorem Voice.Levels.sustainStep (p : Params) : (v.sustainStep p).Levels := by
  unfold Voice.sustainStep
  split
  · exact { h with current := h.top }
  · exact h

/-- Every state step of an active voice keeps its levels legal (41_voice.md R220, R221). -/
theorem Voice.Levels.advances {p : Params} {dt : F32} {y : Voice} (hdt : legalTime dt = true)
    (hdecay : legalTime p.decaySnapMs = true) (hrelease : legalTime p.releaseSnapMs = true)
    (hy : v.Advances p dt y) : y.Levels := by
  cases hy
  case attack hst => exact h.attackStep hdt hst
  case decay hst => exact h.decayStep hdt hdecay hst
  case sustain hst => exact h.sustainStep p
  case ramp hst habove =>
    obtain ⟨htarget, hle, hdelta⟩ := h.release hst
    obtain ⟨hnext, hwithin, hpos⟩ := countdown hle htarget hdt hrelease habove
    obtain ⟨hnextfin, hnext0⟩ := (legalTime_iff _).1 hnext
    exact
      { h with
        current := legalLevel_rampLevel h.bottom hnextfin ((legalTime_iff _).1 htarget).1 hnext0 hwithin hpos hdelta
        attack := fun ha => by cases hst.symm.trans ha
        decay := fun hd => by cases hst.symm.trans hd
        release := fun _ => ⟨htarget, fle_countdown hle hdt, hdelta⟩ }
  case hold hst =>
    obtain ⟨htarget, hle, hdelta⟩ := h.release hst
    exact
      { h with
        attack := fun ha => by cases hst.symm.trans ha
        decay := fun hd => by cases hst.symm.trans hd
        release := fun _ => ⟨htarget, fle_countdown hle hdt, hdelta⟩ }

/-- A voice whose ramp is over keeps its levels, whatever its timer (41_voice.md R206). -/
theorem Voice.Levels.cleared (timer : F32) : { v with timer := timer }.cleared.Levels :=
  { h with
    attack := fun hst => by cases hst
    decay := fun hst => by cases hst
    release := fun hst => by cases hst }

/-- A host write stores legal values only (40_host_access.md R184). -/
theorem Voice.Levels.writeVoiceReg {w : Word} {x : Voice} {r : VoiceReg} (hx : writeVoiceReg w v r = .ok x) :
    x.Levels := by
  cases r <;> simp only [Machine.writeVoiceReg] at hx
  case vctrl =>
    cases hx
    exact { h with }
  case vstat | vbind | timer | delta | target | susCap | lastCode => cases hx
  all_goals
    split at hx <;> cases hx
  case top hw => exact { h with top := hw }
  case bottom hw => exact { h with bottom := hw }
  case sustain hw => exact { h with sustain := hw }
  case attackMs hw => exact { h with attackMs := hw }
  case decayMs hw => exact { h with decayMs := hw }
  case releaseMs hw => exact { h with releaseMs := hw }
  case scale hw => exact { h with scale := (Bool.and_eq_true_iff.1 hw).1 }
  case expr hw => exact { h with expr := hw }
  case modScale hw => exact { h with modScale := hw }
  case current hw => exact { h with current := hw }

end levels

/-! ### The invariant -/

/-- The levels of a voice after reset are legal (10_state.md R68). -/
theorem Voice.Levels.reset : Voice.reset.Levels := by
  constructor <;> decide

section invariant
variable {s : State} (h : LevelInv s)
include h

/-- Every voice that is read has legal levels, also one beyond NUM_VOICES. -/
theorem LevelInv.voice (v : ℕ) : (s.voice v).Levels := by
  by_cases hv : v < s.voices.length
  · rw [State.voice, List.getD_eq_getElem _ _ hv]
    exact h.voices _ (List.getElem_mem hv)
  · rw [State.voice, List.getD_eq_default _ _ (Nat.le_of_not_lt hv)]
    exact .reset

/-- A voice written with legal levels keeps the invariant. -/
theorem LevelInv.setVoice (v : ℕ) {x : Voice} (hx : x.Levels) : LevelInv (s.setVoice v x) :=
  { h with voices := fun y hy => (List.mem_or_eq_of_mem_set hy).elim (h.voices y) fun e => e ▸ hx }

end invariant

/-- Every change keeps the levels' invariant. -/
theorem Change.levelInv {s t : State} (hc : Change s t) (h : LevelInv s) : LevelInv t := by
  cases hc with
  | modulation a as n => exact { h with modTri := a.inRange.1, modSin := a.inRange.2 }
  | tickDt w hw => exact { h with tickDt := hw }
  | writeVoice v r w x hx => exact h.setVoice v ((h.voice v).writeVoiceReg hx)
  | bind v group channel => exact h.setVoice v { h.voice v with }
  | activate v =>
    have hcounted : LevelInv (s.incGroup (s.voice v).group) := { h with }
    refine hcounted.setVoice v ?_
    exact
      { h.voice v with
        attack := fun hst => by cases hst
        decay := fun hst => by cases hst
        release := fun hst => by cases hst }
  | trigger v => exact h.setVoice v { h.voice v with }
  | advance v y _ hy =>
    have hlevels := ((h.voice v).enter s.params).advances h.tickDt h.decaySnap h.releaseSnap hy
    exact h.setVoice v { hlevels with }
  | leave v timer =>
    have hlevels := ((h.voice v).enter s.params).cleared timer
    have huncounted : LevelInv (s.decGroup ((s.voice v).enter s.params).group) := { h with }
    exact huncounted.setVoice v { hlevels with }
  | clear v => exact h.setVoice v ((h.voice v).cleared _)
  | sent v code => exact h.setVoice v { h.voice v with }
  | _ => exact { h with }

/-- Settles O55: every change keeps the levels' invariant, and a write of ERR touches no level. -/
theorem everyStepKeepsTheLevels : Obligations.EveryStepKeepsTheLevels := by
  intro s t h hstep
  rcases step_changes hstep with ⟨w, rest, -, rfl⟩ | hchanges
  · exact { h with }
  · exact hchanges.keep (fun _ _ => Change.levelInv) h

end Sys2Proof.Machine
end

section
/-! The host's map (20_memory.md R102) and what a read of each register returns (10_state.md R33 to R65, R68). -/

namespace Sys2Proof.Machine

open Sys2Proof.Config

/-! ### Addresses -/

/-- The global registers (10_state.md R32). -/
theorem regOf_global (s : State) {a : HostAddr} (ha : a.toNat < 0x20) : s.regOf a = globalRegAt a.toNat := by
  rw [State.regOf, regAt, if_pos ha]

/-- A small address has the number it is built of. -/
theorem toNat_hostAddr {n : ℕ} (h : n < 0x1000 + 0x20 * 64) : (BitVec.ofNat 16 n : HostAddr).toNat = n := by
  rw [BitVec.toNat_ofNat, Nat.mod_eq_of_lt (by omega)]

/-- GROUP_COUNT[g] (10_state.md R46). -/
theorem regOf_groupCount {s : State} {g : ℕ} (hg : g < s.numGroups) (hlt : g < 16) :
    s.regOf (BitVec.ofNat 16 (0x20 + g)) = some (.groupCount g) := by
  rw [State.regOf, regAt, toNat_hostAddr (by omega), if_neg (by omega), if_pos (by omega),
    Nat.add_sub_cancel_left, if_pos hg]

/-- CFG_W0[i] (10_state.md R47). -/
theorem regOf_cfgW0 (s : State) {i : ℕ} (hi : i < 16) :
    s.regOf (BitVec.ofNat 16 (0x40 + 2 * i)) = some (.cfgW0 i) := by
  rw [State.regOf, regAt, toNat_hostAddr (by omega), if_neg (by omega), if_neg (by omega), if_pos (by omega),
    if_pos (by omega), Nat.add_sub_cancel_left, Nat.mul_div_cancel_left _ two_pos]

/-- CFG_W1[i] (10_state.md R47). -/
theorem regOf_cfgW1 (s : State) {i : ℕ} (hi : i < 16) :
    s.regOf (BitVec.ofNat 16 (0x41 + 2 * i)) = some (.cfgW1 i) := by
  rw [State.regOf, regAt, toNat_hostAddr (by omega), if_neg (by omega), if_neg (by omega), if_pos (by omega),
    if_neg (by omega), show (0x41 + 2 * i - 0x40) / 2 = i by omega]

/-- BSTAT0[b] (10_state.md R63). -/
theorem regOf_bstat0 (s : State) {b : ℕ} (hb : b < 16) :
    s.regOf (BitVec.ofNat 16 (0x100 + 2 * b)) = some (.bstat0 b) := by
  rw [State.regOf, regAt, toNat_hostAddr (by omega), if_neg (by omega), if_neg (by omega), if_neg (by omega),
    if_neg (by omega), if_pos (by omega), if_pos (by omega), Nat.add_sub_cancel_left,
    Nat.mul_div_cancel_left _ two_pos]

/-- BSTAT1[b] (10_state.md R63). -/
theorem regOf_bstat1 (s : State) {b : ℕ} (hb : b < 16) :
    s.regOf (BitVec.ofNat 16 (0x101 + 2 * b)) = some (.bstat1 b) := by
  rw [State.regOf, regAt, toNat_hostAddr (by omega), if_neg (by omega), if_neg (by omega), if_neg (by omega),
    if_neg (by omega), if_pos (by omega), if_neg (by omega), show (0x101 + 2 * b - 0x100) / 2 = b by omega]

/-- BUF[b][ch] (10_state.md R64). -/
theorem regOf_buf (s : State) {b ch : ℕ} (hb : b < 16) (hch : ch < 16) :
    s.regOf (BitVec.ofNat 16 (0x200 + 16 * b + ch)) = some (.buf b ch) := by
  rw [State.regOf, regAt, toNat_hostAddr (by omega), if_neg (by omega), if_neg (by omega), if_neg (by omega),
    if_neg (by omega), if_neg (by omega), if_neg (by omega), if_pos (by omega),
    show (0x200 + 16 * b + ch - 0x200) / 16 = b by omega, show (0x200 + 16 * b + ch) % 16 = ch by omega]

/-- DEV[d] (10_state.md R65). -/
theorem regOf_dev (s : State) {d : ℕ} (hd : d < 256) :
    s.regOf (BitVec.ofNat 16 (0x400 + d)) = some (.dev d) := by
  rw [State.regOf, regAt, toNat_hostAddr (by omega), if_neg (by omega), if_neg (by omega), if_neg (by omega),
    if_neg (by omega), if_neg (by omega), if_neg (by omega), if_neg (by omega), if_neg (by omega),
    if_pos (by omega), Nat.add_sub_cancel_left]

/-- The window of voice v (10_state.md R48). -/
theorem regOf_voice {s : State} {v o : ℕ} (hv : v < s.numVoices) (hlt : v < 64) (ho : o < 0x20) :
    s.regOf (voiceAddr v o) = (voiceRegAt o).map (.voice v) := by
  rw [State.regOf, regAt, voiceAddr, toNat_hostAddr (by omega), if_neg (by omega), if_neg (by omega),
    if_neg (by omega), if_neg (by omega), if_neg (by omega), if_neg (by omega), if_neg (by omega),
    if_neg (by omega), if_neg (by omega), if_neg (by omega),
    show (0x1000 + 0x20 * v + o - 0x1000) / 0x20 = v by omega, show (0x1000 + 0x20 * v + o) % 0x20 = o by omega,
    if_pos hv]

/-! ### Reads -/

/-- A read of a mapped address returns its register's word (40_host_access.md R180). -/
theorem readReg_of_regOf {s : State} {a : HostAddr} {r : Reg} (h : s.regOf a = some r) :
    readReg s a = regWord s r := by
  rw [readReg, h]

/-- A read returns the word of the address's register, 0 where there is none (20_memory.md R101). -/
theorem readReg_eq_getD (s : State) (a : HostAddr) : readReg s a = ((s.regOf a).map (regWord s)).getD 0#32 := by
  rw [readReg]
  cases s.regOf a <;> rfl

/-- A read of a global register. -/
theorem readReg_global {s : State} {a : HostAddr} {r : Reg} (ha : a.toNat < 0x20)
    (h : globalRegAt a.toNat = some r) : readReg s a = regWord s r :=
  readReg_of_regOf ((regOf_global s ha).trans h)

/-- A read of a voice's window. -/
theorem readReg_voice {s : State} {v o : ℕ} {r : VoiceReg} (hv : v < s.numVoices) (hlt : v < 64) (ho : o < 0x20)
    (h : voiceRegAt o = some r) : readReg s (voiceAddr v o) = voiceRegWord (s.voice v) r :=
  readReg_of_regOf (by rw [regOf_voice hv hlt ho, h, Option.map_some])

/-- Settles O13: each global register by its address. -/
theorem globalRegistersRead : Obligations.GlobalRegistersRead := by
  intro s
  exact ⟨readReg_global (r := .id) (by decide) rfl, readReg_global (r := .params) (by decide) rfl,
    readReg_global (r := .gctrl) (by decide) rfl, readReg_global (r := .err) (by decide) rfl,
    readReg_global (r := .lastErr) (by decide) rfl, readReg_global (r := .tickDt) (by decide) rfl,
    readReg_global (r := .modTri) (by decide) rfl, readReg_global (r := .modSin) (by decide) rfl,
    readReg_global (r := .cmd) (by decide) rfl, readReg_global (r := .beginResult) (by decide) rfl,
    readReg_global (r := .aalstat) (by decide) rfl, readReg_global (r := .convStatus) (by decide) rfl,
    readReg_global (r := .convResult) (by decide) rfl, readReg_global (r := .adcCfg) (by decide) rfl⟩

/-- A zero-extended word has zeros in front. -/
theorem setWidth_eq_zero_append {m n : ℕ} (x : BitVec n) : x.setWidth (m + n) = 0#m ++ x := by
  refine BitVec.eq_of_toNat_eq ?_
  have hlt : x.toNat < 2 ^ (m + n) := x.isLt.trans_le (Nat.pow_le_pow_right two_pos (Nat.le_add_left n m))
  rw [BitVec.toNat_setWidth, Nat.mod_eq_of_lt hlt]
  simp

/-- The bit of DMODE is 1 for INVERT (10_state.md R49). -/
theorem dmodeBit_eq (m : DamperMode) : dmodeBit m = decide (m = .invert) := by
  cases m <;> rfl

/-- Settles O15: each register of the window by its offset. -/
theorem voiceRegistersRead : Obligations.VoiceRegistersRead := by
  refine ⟨⟨rfl, rfl, rfl, rfl, rfl, rfl, rfl, rfl⟩, fun s v hv hlt => ?_⟩
  have hread {o : ℕ} {r : VoiceReg} (ho : o < 0x20) (hr : voiceRegAt o = some r) :
      readReg s (voiceAddr v o) = voiceRegWord (s.voice v) r := readReg_voice hv hlt ho hr
  rw [← dmodeBit_eq]
  exact ⟨hread (r := .vctrl) (by decide) rfl, hread (r := .vstat) (by decide) rfl,
    hread (r := .vbind) (by decide) rfl, hread (r := .top) (by decide) rfl, hread (r := .bottom) (by decide) rfl,
    hread (r := .sustain) (by decide) rfl, hread (r := .attackMs) (by decide) rfl,
    hread (r := .decayMs) (by decide) rfl, hread (r := .releaseMs) (by decide) rfl,
    hread (r := .scale) (by decide) rfl, hread (r := .expr) (by decide) rfl, hread (r := .modScale) (by decide) rfl,
    hread (r := .current) (by decide) rfl, hread (r := .timer) (by decide) rfl, hread (r := .delta) (by decide) rfl,
    hread (r := .target) (by decide) rfl, hread (r := .susCap) (by decide) rfl,
    hread (r := .lastCode) (by decide) rfl⟩

/-- An entry of the board table below NBOARDS reads as its word, one beyond as 0 (10_state.md R63). -/
theorem regWord_bstat (s : State) (b : ℕ) :
    (b < s.numBoards → regWord s (.bstat0 b) = bstat0Word (s.board b) ∧
      regWord s (.bstat1 b) = bstat1Word (s.board b)) ∧
    (s.numBoards ≤ b → regWord s (.bstat0 b) = 0#32 ∧ regWord s (.bstat1 b) = 0#32) :=
  ⟨fun h => ⟨if_pos h, if_pos h⟩, fun h => ⟨if_neg h.not_gt, if_neg h.not_gt⟩⟩

/-- Settles O14: each table's register by its address. -/
theorem tableRegistersRead : Obligations.TableRegistersRead := by
  refine ⟨⟨rfl, rfl, rfl⟩, ⟨rfl, rfl, rfl, rfl⟩, ⟨rfl, fun c => setWidth_eq_zero_append c⟩, fun s => ?_⟩
  refine ⟨fun g hg hlt => ?_, fun i hi => ⟨?_, ?_⟩, fun b hb => ?_, fun d hd => ?_⟩
  · exact (readReg_of_regOf (regOf_groupCount hg hlt)).trans (setWidth_eq_zero_append _)
  · exact readReg_of_regOf (regOf_cfgW0 s hi)
  · exact readReg_of_regOf (regOf_cfgW1 s hi)
  · rw [readReg_of_regOf (regOf_bstat0 s hb), readReg_of_regOf (regOf_bstat1 s hb)]
    obtain ⟨hbelow, hbeyond⟩ := regWord_bstat s b
    refine ⟨hbelow, hbeyond, fun ch hch => ?_⟩
    exact (readReg_of_regOf (regOf_buf s hb hch)).trans (setWidth_eq_zero_append _)
  · rw [readReg_of_regOf (regOf_dev s hd)]
    exact ⟨fun h => if_pos h, fun h => if_neg h.not_gt⟩

/-! ### The reset values -/

/-- The addresses that read 0 after reset (10_state.md R68). -/
theorem resetWord_eq_zero {n : ℕ} (hglobal : n ≠ 0x00 ∧ n ≠ 0x01 ∧ n ≠ 0x09)
    (htable : ¬(0x40 ≤ n ∧ n ≤ 0x5F ∧ n % 2 = 0)) (hexpr : ¬(0x1000 ≤ n ∧ n < 0x1200 ∧ n % 0x20 = 0x0A)) :
    resetWord n = 0x00000000#32 := by
  rw [resetWord, if_neg hglobal.1, if_neg hglobal.2.1, if_neg hglobal.2.2, if_neg htable, if_neg hexpr]

/-- The first words of the descriptors after reset. -/
theorem resetWord_cfgW0 {n : ℕ} (h : 0x40 ≤ n ∧ n ≤ 0x5F ∧ n % 2 = 0) : resetWord n = 0x000000FF#32 := by
  rw [resetWord, if_neg (by omega), if_neg (by omega), if_neg (by omega), if_pos h]

/-- EXPR after reset. -/
theorem resetWord_expr {n : ℕ} (h : 0x1000 ≤ n ∧ n < 0x1200 ∧ n % 0x20 = 0x0A) : resetWord n = 0x3F800000#32 := by
  rw [resetWord, if_neg (by omega), if_neg (by omega), if_neg (by omega), if_neg (by omega), if_pos h]

/-- A table whose entries are all the default reads as the default. -/
theorem getD_replicate_same {α : Type} (n i : ℕ) (x : α) : (List.replicate n x).getD i x = x := by
  rcases Nat.lt_or_ge i n with h | h
  · exact List.getD_replicate x h
  · exact List.getD_eq_default _ _ (by rwa [List.length_replicate])

/-- Every descriptor is a terminator after reset. -/
theorem reset_descriptor (i : ℕ) : State.reset.table.getD i Descriptor.terminator = Descriptor.terminator :=
  getD_replicate_same ..

/-- Every voice is in its reset state after reset. -/
theorem reset_voice (v : ℕ) : State.reset.voice v = Voice.reset :=
  getD_replicate_same ..

/-- A voice register is 0 after reset, but EXPR, at offset 0x0A, is 1.0 (10_state.md R68). -/
theorem voiceRegWord_reset {o : ℕ} {r : VoiceReg} (h : voiceRegAt o = some r) :
    voiceRegWord Voice.reset r = if o = 0x0A then 0x3F800000#32 else 0x00000000#32 := by
  unfold voiceRegAt at h
  split at h <;> cases h <;> rfl

/-- The registers outside the global ones and the voice windows are 0 after reset, but the first words of the
descriptors. -/
theorem regWord_reset_tables :
    (∀ g, regWord State.reset (.groupCount g) = 0#32) ∧ (∀ i, regWord State.reset (.cfgW0 i) = 0x000000FF#32) ∧
    (∀ i, regWord State.reset (.cfgW1 i) = 0#32) ∧ (∀ b, regWord State.reset (.bstat0 b) = 0#32) ∧
    (∀ b, regWord State.reset (.bstat1 b) = 0#32) ∧ (∀ b ch, regWord State.reset (.buf b ch) = 0#32) ∧
    ∀ d, regWord State.reset (.dev d) = 0#32 := by
  refine ⟨fun g => ?_, fun i => ?_, fun i => ?_, fun _ => rfl, fun _ => rfl, fun b ch => ?_, fun _ => rfl⟩
  · rw [regWord, State.reset, getD_replicate_same]
    rfl
  · rw [regWord, reset_descriptor]
    rfl
  · rw [regWord, reset_descriptor]
    rfl
  · have hzero : (State.reset.board b).slot ch = 0#16 := getD_replicate_same maxCh ch 0#16
    rw [regWord, hzero]
    rfl

/-- The global registers after reset (10_state.md R68). -/
theorem readReg_reset_global {a : HostAddr} (ha : a.toNat < 0x20) : readReg State.reset a = resetWord a.toNat := by
  rw [readReg, regOf_global _ ha]
  generalize a.toNat = n at ha
  interval_cases n <;> rfl

/-- A voice window after reset, also at an offset that holds no register. -/
theorem voiceWindow_reset (v o : ℕ) :
    (((voiceRegAt o).map (Reg.voice v)).map (regWord State.reset)).getD 0#32 =
      if o = 0x0A then 0x3F800000#32 else 0x00000000#32 := by
  cases hr : voiceRegAt o with
  | none =>
    have ho : o ≠ 0x0A := by
      rintro rfl
      cases hr
    rw [if_neg ho]
    rfl
  | some r =>
    rw [← voiceRegWord_reset hr, ← reset_voice v]
    rfl

/-- The tables after reset, and the addresses between them that are unmapped. -/
theorem readReg_reset_tables {a : HostAddr} (hlow : ¬a.toNat < 0x20) (hhigh : a.toNat < 0x1000) :
    readReg State.reset a = resetWord a.toNat := by
  obtain ⟨hgroup, hw0, hw1, hbstat0, hbstat1, hbuf, hdev⟩ := regWord_reset_tables
  rw [readReg_eq_getD, State.regOf, regAt, if_neg hlow]
  generalize a.toNat = n at hlow hhigh
  have hzero (hn : ¬(0x40 ≤ n ∧ n ≤ 0x5F ∧ n % 2 = 0)) (hn' : ¬(0x1000 ≤ n ∧ n < 0x1200 ∧ n % 0x20 = 0x0A)) :
      0x00000000#32 = resetWord n := (resetWord_eq_zero (by omega) hn hn').symm
  rcases Nat.lt_or_ge n 0x40 with hregion | hbeyond
  · rw [if_pos hregion]
    split
    · exact (hgroup _).trans (hzero (by omega) (by omega))
    · exact hzero (by omega) (by omega)
  rw [if_neg hbeyond.not_gt]
  rcases Nat.lt_or_ge n 0x60 with hregion | hbeyond
  · rw [if_pos hregion]
    split
    · exact (hw0 _).trans (resetWord_cfgW0 (by omega)).symm
    · exact (hw1 _).trans (hzero (by omega) (by omega))
  rw [if_neg hbeyond.not_gt]
  rcases Nat.lt_or_ge n 0x100 with hregion | hbeyond
  · rw [if_pos hregion]
    exact hzero (by omega) (by omega)
  rw [if_neg hbeyond.not_gt]
  rcases Nat.lt_or_ge n 0x120 with hregion | hbeyond
  · rw [if_pos hregion]
    split
    · exact (hbstat0 ((n - 0x100) / 2)).trans (hzero (by omega) (by omega))
    · exact (hbstat1 ((n - 0x100) / 2)).trans (hzero (by omega) (by omega))
  rw [if_neg hbeyond.not_gt]
  rcases Nat.lt_or_ge n 0x200 with hregion | hbeyond
  · rw [if_pos hregion]
    exact hzero (by omega) (by omega)
  rw [if_neg hbeyond.not_gt]
  rcases Nat.lt_or_ge n 0x300 with hregion | hbeyond
  · rw [if_pos hregion]
    exact (hbuf _ _).trans (hzero (by omega) (by omega))
  rw [if_neg hbeyond.not_gt]
  rcases Nat.lt_or_ge n 0x400 with hregion | hbeyond
  · rw [if_pos hregion]
    exact hzero (by omega) (by omega)
  rw [if_neg hbeyond.not_gt]
  rcases Nat.lt_or_ge n 0x500 with hregion | hbeyond
  · rw [if_pos hregion]
    exact (hdev (n - 0x400)).trans (hzero (by omega) (by omega))
  rw [if_neg hbeyond.not_gt, if_pos hhigh]
  exact hzero (by omega) (by omega)

/-- The voice windows after reset, and the addresses beyond them. -/
theorem readReg_reset_voices {a : HostAddr} (h : 0x1000 ≤ a.toNat) :
    readReg State.reset a = resetWord a.toNat := by
  have hvoices : State.reset.numVoices = 16 := rfl
  rw [readReg_eq_getD, State.regOf, regAt, hvoices]
  generalize a.toNat = n at h
  have hzero (hn : ¬(0x1000 ≤ n ∧ n < 0x1200 ∧ n % 0x20 = 0x0A)) : 0x00000000#32 = resetWord n :=
    (resetWord_eq_zero (by omega) (by omega) hn).symm
  rw [if_neg (by omega), if_neg (by omega), if_neg (by omega), if_neg (by omega), if_neg (by omega),
    if_neg (by omega), if_neg (by omega), if_neg (by omega), if_neg (by omega), if_neg (by omega)]
  split
  next hvoice =>
    rw [voiceWindow_reset]
    split
    next ho => exact (resetWord_expr (by omega)).symm
    next ho => exact hzero (by omega)
  next hvoice => exact hzero (by omega)

/-- Settles O11, by the regions of the map. -/
theorem resetRegistersRead : Obligations.ResetRegistersRead := by
  refine ⟨fun a => ?_, rfl⟩
  by_cases hglobal : a.toNat < 0x20
  · exact readReg_reset_global hglobal
  · rcases Nat.lt_or_ge a.toNat 0x1000 with htables | hvoices
    · exact readReg_reset_tables hglobal htables
    · exact readReg_reset_voices hvoices

/-! ### Writes -/

/-- A write of a mapped address other than CMD writes its register (40_host_access.md R181). -/
theorem execWr_of_regOf {s : State} {a : HostAddr} {r : Reg} (w : Word) (h : s.regOf a = some r) (hr : r ≠ .cmd) :
    execWr a w s = .next (s.writeReg r w) := by
  unfold execWr
  rw [h]
  cases r
  case cmd => exact absurd rfl hr
  all_goals rfl

/-- A write of a voice's window (40_host_access.md R181). -/
theorem exec_wr_voice {s : State} {v o : ℕ} {r : VoiceReg} (w : Word) (hv : v < s.numVoices) (hlt : v < 64)
    (ho : o < 0x20) (h : voiceRegAt o = some r) :
    exec (.wr (voiceAddr v o) w) s = .next (s.writeVoice v r w) :=
  execWr_of_regOf (r := .voice v r) w (by rw [regOf_voice hv hlt ho, h, Option.map_some]) nofun

/-- Settles O20: the write of VCTRL is `Voice.writeVctrl`. -/
theorem vctrlWriteStoresAndMarksDirty : Obligations.VctrlWriteStoresAndMarksDirty :=
  fun _ _ w hv hlt => exec_wr_voice (r := .vctrl) w hv hlt (by decide) rfl

end Sys2Proof.Machine
end

section
/-! The invariants of a safe run hold after reset (10_state.md R67, R68). -/

namespace Sys2Proof.Machine

open Sys2Proof.Config

/-- Every voice is in its reset state. -/
theorem eq_reset_of_mem {v : Voice} (h : v ∈ State.reset.voices) : v = Voice.reset :=
  List.eq_of_mem_replicate h

/-- No voice is active after reset, and every counter is 0. -/
theorem CountInv.reset : CountInv State.reset where
  voices := by decide
  coherent v hv := by
    rw [eq_reset_of_mem hv]
    decide
  groups v hv hbound := by
    rw [eq_reset_of_mem hv] at hbound
    cases hbound
  counts g _ := by
    have hnone : activeIn State.reset.voices g = 0 :=
      List.countP_eq_zero.2 fun v hv => by
        rw [eq_reset_of_mem hv]
        exact Bool.false_ne_true
    rw [hnone, State.reset, getD_replicate_same]
    rfl

/-- Every level, time and scale is a legal constant after reset. -/
theorem LevelInv.reset : LevelInv State.reset where
  tickDt := by decide
  modTri := by decide
  modSin := by decide
  decaySnap := by decide
  releaseSnap := by decide
  voices v hv := eq_reset_of_mem hv ▸ .reset

/-- There is no board, no device and no awaited conversion after reset. -/
theorem TableInv.reset : TableInv State.reset where
  descriptors := List.length_replicate ..
  count := Nat.zero_le _
  boards _ hbd := absurd hbd List.not_mem_nil
  devices := rfl
  begun _ := rfl
  awaiting h := by cases h

/-- Settles O53. -/
theorem resetSatisfiesTheInvariants : Obligations.ResetSatisfiesTheInvariants :=
  ⟨.reset, .reset, .reset⟩

end Sys2Proof.Machine
end

section
/-! The trace (20_memory.md R112). -/

namespace Sys2Proof.Machine

/-- The trace of `t` is that of `s` with events appended, none of them a Log of severity INFO
(60_exceptions.md R377). -/
def Appends (s t : State) : Prop := ∃ es, t.trace = s.trace ++ es ∧ ∀ e ∈ es, e.isInfo = false

theorem Appends.of_eq {s t : State} (h : t.trace = s.trace) : Appends s t :=
  ⟨[], by rw [h, List.append_nil], nofun⟩

/-- One event appended. -/
theorem Appends.of_event {s t : State} {e : Event} (h : t.trace = s.trace ++ [e]) (he : e.isInfo = false) :
    Appends s t :=
  ⟨[e], h, fun _ hmem => List.mem_singleton.1 hmem ▸ he⟩

theorem Appends.trans {s t u : State} (h : Appends s t) (k : Appends t u) : Appends s u := by
  obtain ⟨es, ht, hes⟩ := h
  obtain ⟨fs, hu, hfs⟩ := k
  refine ⟨es ++ fs, by rw [hu, ht, List.append_assoc], fun e he => ?_⟩
  exact (List.mem_append.1 he).elim (hes e) (hfs e)

/-- What is appended is what stands behind the old trace. -/
theorem Appends.drop {s t : State} (h : Appends s t) :
    s.trace <+: t.trace ∧ ∀ e ∈ t.trace.drop s.trace.length, e.isInfo = false := by
  obtain ⟨es, ht, hes⟩ := h
  rw [ht, List.drop_left]
  exact ⟨List.prefix_append _ _, hes⟩

/-- An event, an error record and a delivered sample append one event each; no other change touches the trace. -/
theorem Change.appends {s t : State} (h : Change s t) : Appends s t := by
  cases h with
  | emit e he => exact .of_event (s.emit_trace e) he
  | raise e i op => exact .of_event (s.raise_trace e i op) rfl
  | deliver raw => exact .of_event (e := .sampleReady raw) rfl rfl
  | _ => exact .of_eq rfl

theorem Changes.appends {s t : State} (h : Changes s t) : Appends s t :=
  h.keep (P := Appends s) (fun _ _ hc hs => hs.trans hc.appends) (.of_eq rfl)

/-- Settles O58: every change appends, and a write of ERR leaves the trace as it is. -/
theorem traceOnlyGrows : Obligations.TraceOnlyGrows := by
  intro s t hstep
  refine Appends.drop ?_
  rcases step_changes hstep with ⟨w, rest, -, rfl⟩ | hchanges
  · exact .of_eq rfl
  · exact hchanges.appends

end Sys2Proof.Machine
end

section
/-! The host's map (20_memory.md R102) address by address: `Reg.StandsAt` says what an address that holds a
register holds, `mapped` which addresses hold one. -/

namespace Sys2Proof.Machine

open Sys2Proof.Config

/-! ### The register at an address -/

/-- The register stands at address n of the map (20_memory.md R102). -/
inductive Reg.StandsAt (numVoices numGroups n : ℕ) : Reg → Prop where
  | global (r : Reg) : n < 0x20 → globalRegAt n = some r → StandsAt numVoices numGroups n r
  | groupCount (g : ℕ) : g < numGroups → n = 0x20 + g → StandsAt numVoices numGroups n (.groupCount g)
  | cfgW0 (i : ℕ) : i < 16 → n = 0x40 + 2 * i → StandsAt numVoices numGroups n (.cfgW0 i)
  | cfgW1 (i : ℕ) : i < 16 → n = 0x41 + 2 * i → StandsAt numVoices numGroups n (.cfgW1 i)
  | bstat0 (b : ℕ) : b < 16 → n = 0x100 + 2 * b → StandsAt numVoices numGroups n (.bstat0 b)
  | bstat1 (b : ℕ) : b < 16 → n = 0x101 + 2 * b → StandsAt numVoices numGroups n (.bstat1 b)
  | buf (b ch : ℕ) : b < 16 → ch < 16 → n = 0x200 + 16 * b + ch → StandsAt numVoices numGroups n (.buf b ch)
  | dev (d : ℕ) : d < 256 → n = 0x400 + d → StandsAt numVoices numGroups n (.dev d)
  | voice (v o : ℕ) (x : VoiceReg) : v < numVoices → voiceRegAt o = some x → n = 0x1000 + 0x20 * v + o →
      StandsAt numVoices numGroups n (.voice v x)

/-- The register of a mapped address stands there. -/
theorem standsAt_of_regOf {s : State} {a : HostAddr} {r : Reg} (h : s.regOf a = some r) :
    r.StandsAt s.numVoices s.numGroups a.toNat := by
  simp only [State.regOf, regAt, ite_eq_iff, Option.some.injEq, Option.map_eq_some_iff, reduceCtorEq, and_false,
    false_or, or_false] at h
  rcases h with ⟨hlow, hr⟩ | ⟨hlow, h⟩
  · exact .global r hlow hr
  rcases h with ⟨hhigh, hg, rfl⟩ | ⟨hlow, h⟩
  · exact .groupCount _ hg (by omega)
  rcases h with ⟨hhigh, ⟨hpar, rfl⟩ | ⟨hpar, rfl⟩⟩ | ⟨-, hlow, h⟩
  · exact .cfgW0 _ (by omega) (by omega)
  · exact .cfgW1 _ (by omega) (by omega)
  rcases h with ⟨hhigh, ⟨hpar, rfl⟩ | ⟨hpar, rfl⟩⟩ | ⟨-, hlow, h⟩
  · exact .bstat0 _ (by omega) (by omega)
  · exact .bstat1 _ (by omega) (by omega)
  rcases h with ⟨hhigh, rfl⟩ | ⟨-, hlow, h⟩
  · exact .buf _ _ (by omega) (by omega) (by omega)
  rcases h with ⟨hhigh, rfl⟩ | ⟨-, hlow, hv, x, hx, rfl⟩
  · exact .dev _ (by omega) (by omega)
  · exact .voice _ _ x hv hx (by omega)

/-! ### The mapped addresses -/

/-- The global registers fill the addresses up to 0x0D (10_state.md R32). -/
theorem globalRegAt_isSome_iff (n : ℕ) : (globalRegAt n).isSome ↔ n ≤ 0x0D := by
  refine ⟨fun h => ?_, fun h => by interval_cases n <;> rfl⟩
  unfold globalRegAt at h
  split at h
  case h_15 => cases h
  all_goals decide

/-- The registers of a voice fill the offsets up to 0x11 of its window (10_state.md R48). -/
theorem voiceRegAt_isSome_iff (o : ℕ) : (voiceRegAt o).isSome ↔ o ≤ 0x11 := by
  refine ⟨fun h => ?_, fun h => by interval_cases o <;> rfl⟩
  unfold voiceRegAt at h
  split at h
  case h_19 => cases h
  all_goals decide

/-- An address where a register stands is mapped. -/
theorem Reg.StandsAt.mapped {numVoices numGroups n : ℕ} {r : Reg} (h : r.StandsAt numVoices numGroups n) :
    mapped numVoices numGroups n := by
  unfold Machine.mapped
  cases h with
  | global r _ hr => exact .inl ((globalRegAt_isSome_iff n).1 (hr ▸ rfl))
  | groupCount g => omega
  | cfgW0 i => omega
  | cfgW1 i => omega
  | bstat0 b => omega
  | bstat1 b => omega
  | buf b ch => omega
  | dev d => omega
  | voice v o x hv hx hn =>
    exact .inr (.inr (.inr (.inr (.inr (.inr ⟨v, o, hv, (voiceRegAt_isSome_iff o).1 (hx ▸ rfl), hn⟩)))))

/-- An address is mapped exactly where the map has a register (20_memory.md R102). -/
theorem regOf_isSome_iff {s : State} (a : HostAddr) (hgroups : s.numGroups ≤ 16) :
    (s.regOf a).isSome ↔ mapped s.numVoices s.numGroups a.toNat := by
  refine ⟨fun h => ?_, fun h => ?_⟩
  · obtain ⟨r, hr⟩ := Option.isSome_iff_exists.1 h
    exact (standsAt_of_regOf hr).mapped
  · rw [State.regOf, regAt]
    rcases h with h | h | h | h | h | h | ⟨v, o, hv, ho, h⟩
    · rw [if_pos (by omega), globalRegAt_isSome_iff]
      exact h
    pick_goal 6
    · simp (disch := omega) only [if_pos, if_neg, Option.isSome_map, voiceRegAt_isSome_iff]
      omega
    all_goals simp (disch := omega) only [if_pos, if_neg, Option.isSome_some]

/-! ### Accesses -/

/-- A read of a mapped address returns its register's word (40_host_access.md R180). -/
theorem execRd_of_regOf {s : State} {a : HostAddr} {r : Reg} (h : s.regOf a = some r) :
    execRd a s = .next (s.reply (readReg s a)) := by
  rw [execRd, readReg_of_regOf h, h]

/-- A read of an unmapped address returns 0 and records BadRegister (20_memory.md R101). -/
theorem execRd_of_unmapped {s : State} {a : HostAddr} (h : s.regOf a = none) :
    execRd a s = .next (State.reply 0#32 (s.raise .badRegister 0#8 0xFD#8)) := by
  rw [execRd, h]

/-- A write of an unmapped address only records BadRegister (20_memory.md R101). -/
theorem execWr_of_unmapped {s : State} {a : HostAddr} (w : Word) (h : s.regOf a = none) :
    execWr a w s = .next (s.raise .badRegister 0#8 0xFE#8) := by
  rw [execWr, h]

/-- Settles O12: a mapped address has a register, an unmapped one has none. -/
theorem hostAccessFollowsTheMap : Obligations.HostAccessFollowsTheMap := by
  intro s a hgroups
  rw [← regOf_isSome_iff a hgroups]
  refine ⟨fun h => ?_, fun h => ?_⟩
  · obtain ⟨r, hr⟩ := Option.isSome_iff_exists.1 h
    exact execRd_of_regOf hr
  · have hnone := Option.not_isSome_iff_eq_none.1 h
    exact ⟨execRd_of_unmapped hnone, fun w => execWr_of_unmapped w hnone⟩

end Sys2Proof.Machine
end

section
/-! What a host write leaves of the words the other addresses read as (20_memory.md R106; 40_host_access.md
R181): different addresses hold different registers, and the write of one register keeps the words of the rest,
but for the error record and the written voice's VSTAT. -/

namespace Sys2Proof.Machine

open Sys2Proof.Config

/-! ### One address, one register -/

/-- The offset of a register in a voice's window (10_state.md R48). -/
def VoiceReg.offset : VoiceReg → ℕ
  | .vctrl => 0x00
  | .vstat => 0x01
  | .vbind => 0x02
  | .top => 0x03
  | .bottom => 0x04
  | .sustain => 0x05
  | .attackMs => 0x06
  | .decayMs => 0x07
  | .releaseMs => 0x08
  | .scale => 0x09
  | .expr => 0x0A
  | .modScale => 0x0B
  | .current => 0x0C
  | .timer => 0x0D
  | .delta => 0x0E
  | .target => 0x0F
  | .susCap => 0x10
  | .lastCode => 0x11

/-- The address of a register (20_memory.md R102). -/
def Reg.address : Reg → ℕ
  | .id => 0x00
  | .params => 0x01
  | .gctrl => 0x02
  | .err => 0x03
  | .lastErr => 0x04
  | .tickDt => 0x05
  | .modTri => 0x06
  | .modSin => 0x07
  | .cmd => 0x08
  | .beginResult => 0x09
  | .aalstat => 0x0A
  | .convStatus => 0x0B
  | .convResult => 0x0C
  | .adcCfg => 0x0D
  | .groupCount g => 0x20 + g
  | .cfgW0 i => 0x40 + 2 * i
  | .cfgW1 i => 0x41 + 2 * i
  | .bstat0 b => 0x100 + 2 * b
  | .bstat1 b => 0x101 + 2 * b
  | .buf b ch => 0x200 + 16 * b + ch
  | .dev d => 0x400 + d
  | .voice v x => 0x1000 + 0x20 * v + x.offset

/-- A register of a voice stands at its offset alone. -/
theorem offset_of_voiceRegAt {o : ℕ} {x : VoiceReg} (h : voiceRegAt o = some x) : o = x.offset := by
  unfold voiceRegAt at h
  split at h <;> cases h <;> rfl

/-- A global register stands at its address alone. -/
theorem address_of_globalRegAt {n : ℕ} {r : Reg} (h : globalRegAt n = some r) : n = r.address := by
  unfold globalRegAt at h
  split at h <;> cases h <;> rfl

/-- A register stands at its address alone (20_memory.md R102). -/
theorem address_of_regOf {s : State} {a : HostAddr} {r : Reg} (h : s.regOf a = some r) : a.toNat = r.address := by
  cases standsAt_of_regOf h with
  | global r _ hr => exact address_of_globalRegAt hr
  | voice v o x _ hx hn => rw [hn, offset_of_voiceRegAt hx, Reg.address]
  | _ => assumption

/-- An address is the one whose number its register's address is. -/
theorem eq_of_address {s : State} {a b : HostAddr} {r : Reg} (h : s.regOf b = some r) (ha : r.address = a.toNat) :
    b = a :=
  BitVec.eq_of_toNat_eq ((address_of_regOf h).trans ha)

/-- VSTAT of a voice stands at offset 0x01 of the window of any of its registers (10_state.md R48). -/
theorem eq_vstat_of_regOf {s : State} {a b : HostAddr} {v : ℕ} {x : VoiceReg} (ha : s.regOf a = some (.voice v x))
    (hb : s.regOf b = some (.voice v .vstat)) :
    0x1000 ≤ a.toNat ∧ b = voiceAddr ((a.toNat - 0x1000) / 0x20) 0x01 := by
  have hoffset : x.offset < 0x20 := by cases x <;> decide
  have haddr : a.toNat = 0x1000 + 0x20 * v + x.offset := address_of_regOf ha
  have hvoice : (a.toNat - 0x1000) / 0x20 = v := by omega
  have hvstat : b.toNat = 0x1000 + 0x20 * v + 0x01 := address_of_regOf hb
  refine ⟨by omega, ?_⟩
  rw [hvoice, voiceAddr, ← hvstat, BitVec.ofNat_toNat, BitVec.setWidth_eq]

/-! ### What a write changes of the words -/

/-- A recorded error shows in ERR and LAST_ERR alone (60_exceptions.md R372). -/
theorem regWord_raise (s : State) (e : ErrorKind) (i op : Byte) {r : Reg} (herr : r ≠ .err) (hlast : r ≠ .lastErr) :
    regWord (s.raise e i op) r = regWord s r := by
  cases r
  case err => exact absurd rfl herr
  case lastErr => exact absurd rfl hlast
  all_goals rfl

theorem regWord_clearErr (s : State) (w : Word) :
    regWord (s.clearErr w) = Function.update (regWord s) .err (errWord (s.clearErr w)) := by
  funext r
  cases r <;> rfl

theorem regWord_modSel (s : State) (b : Bool) :
    regWord { s with modSel := b } = Function.update (regWord s) .gctrl (0#31 ++ ofBit b) := by
  funext r
  cases r <;> rfl

theorem regWord_tickDt (s : State) (w : Word) :
    regWord { s with tickDt := w } = Function.update (regWord s) .tickDt w := by
  funext r
  cases r <;> rfl

theorem regWord_ready (s : State) (b : Bool) :
    regWord { s with ready := b } =
      Function.update (regWord s) .convStatus (0#16 ++ s.awaitDev ++ 0#6 ++ ofBit b ++ ofBit s.awaiting) := by
  funext r
  cases r <;> rfl

theorem regWord_adcCfg (s : State) (gain rate : BitVec 3) :
    regWord { s with adcGain := gain, adcRate := rate } =
      Function.update (regWord s) .adcCfg (0#26 ++ rate ++ gain) := by
  funext r
  cases r <;> rfl

/-- A modified list says the same of an entry, but where the entry is the modified one and says something else. -/
theorem apply_getD_modify {α β : Type} (g : α → β) (f : α → α) (l : List α) (i j : ℕ) (d : α)
    (h : i = j → ∀ x, g (f x) = g x) : g ((l.modify i f).getD j d) = g (l.getD j d) := by
  rw [List.getD_eq_getElem?_getD, List.getD_eq_getElem?_getD, List.getElem?_modify]
  by_cases hij : i = j
  · cases l[j]? with
    | none => rfl
    | some x => simp [hij, h hij x]
  · simp [hij]

/-- A written first word of a descriptor shows in itself alone (40_host_access.md R189). -/
theorem regWord_writeCfgW0 (s : State) (i : ℕ) (w : Word) {r : Reg} (h : r ≠ .cfgW0 i) :
    regWord (s.writeCfgW0 i w) r = regWord s r := by
  cases r
  case cfgW0 j => exact apply_getD_modify Descriptor.w0 _ _ i j _ fun hij => absurd (hij ▸ rfl) h
  case cfgW1 j => exact apply_getD_modify Descriptor.w1 _ _ i j _ fun _ _ => rfl
  all_goals rfl

/-- A written second word of a descriptor shows in itself alone (40_host_access.md R189). -/
theorem regWord_writeCfgW1 (s : State) (i : ℕ) (w : Word) {r : Reg} (h : r ≠ .cfgW1 i) :
    regWord (s.writeCfgW1 i w) r = regWord s r := by
  cases r
  case cfgW0 j => exact apply_getD_modify Descriptor.w0 _ _ i j _ fun _ _ => rfl
  case cfgW1 j => exact apply_getD_modify Descriptor.w1 _ _ i j _ fun hij => absurd (hij ▸ rfl) h
  all_goals rfl

/-- A write of a voice register shows in itself and in VSTAT, which holds DIRTY (40_host_access.md R181, R186). -/
theorem voiceRegWord_writeVoiceReg {w : Word} {v y : Voice} {x : VoiceReg} (h : writeVoiceReg w v x = .ok y) :
    voiceRegWord y = Function.update (Function.update (voiceRegWord v) .vstat (vstatWord y)) x (voiceRegWord y x) := by
  cases x
  case vstat | vbind | timer | delta | target | susCap | lastCode => cases h
  case vctrl =>
    cases h
    funext z
    cases z <;> rfl
  all_goals
    simp only [writeVoiceReg] at h
    split at h <;> cases h
    funext z
    cases z <;> rfl

/-- A written voice shows in those of its registers whose word is another one. -/
theorem regWord_setVoice (s : State) (v : ℕ) (y : Voice) {r : Reg}
    (h : ∀ z, r = .voice v z → voiceRegWord y z = voiceRegWord (s.voice v) z) :
    regWord (s.setVoice v y) r = regWord s r := by
  cases r
  case params =>
    rw [regWord, regWord, paramsWord, paramsWord, State.setVoice_voices, List.length_set, State.setVoice_groupCount]
  case voice u z =>
    by_cases huv : v = u
    · subst huv
      by_cases hv : v < s.voices.length
      · rw [regWord, State.setVoice_voice_self _ _ _ hv, h z rfl, regWord]
      · rw [State.setVoice, List.set_eq_of_length_le (Nat.le_of_not_lt hv)]
    · rw [regWord, State.setVoice_voice_ne _ _ _ _ huv, regWord]
  all_goals rfl

/-- A host write of a voice register shows in itself, in its voice's VSTAT and in the error record alone. -/
theorem regWord_writeVoice (s : State) (v : ℕ) (x : VoiceReg) (w : Word) {r : Reg} (h : r ≠ .voice v x)
    (hvstat : r ≠ .voice v .vstat) (herr : r ≠ .err) (hlast : r ≠ .lastErr) :
    regWord (s.writeVoice v x w) r = regWord s r := by
  unfold State.writeVoice
  split
  next y hy =>
    refine regWord_setVoice s v y fun z hz => ?_
    subst hz
    have hzx : z ≠ x := fun hzx => h (hzx ▸ rfl)
    have hzv : z ≠ .vstat := fun hzv => hvstat (hzv ▸ rfl)
    rw [voiceRegWord_writeVoiceReg hy, Function.update_of_ne hzx, Function.update_of_ne hzv]
  next e _ => exact regWord_raise _ _ _ _ herr hlast

/-- A host write of a register shows in itself, in the error record and, of a voice's register, in VSTAT alone. -/
theorem regWord_writeReg (s : State) {r q : Reg} (w : Word) (h : q ≠ r) (herr : q ≠ .err) (hlast : q ≠ .lastErr)
    (hvstat : ∀ v x, r = .voice v x → q ≠ .voice v .vstat) : regWord (s.writeReg r w) q = regWord s q := by
  cases r with
  | gctrl => rw [State.writeReg, regWord_modSel, Function.update_of_ne h]
  | err => rw [State.writeReg, regWord_clearErr, Function.update_of_ne h]
  | tickDt =>
    rw [State.writeReg]
    split
    · rw [regWord_tickDt, Function.update_of_ne h]
    · exact regWord_raise _ _ _ _ herr hlast
  | convStatus =>
    rw [State.writeReg]
    split
    · rw [regWord_ready, Function.update_of_ne h]
    · rfl
  | adcCfg => rw [State.writeReg, regWord_adcCfg, Function.update_of_ne h]
  | cfgW0 i => exact regWord_writeCfgW0 s i w h
  | cfgW1 i => exact regWord_writeCfgW1 s i w h
  | voice v x => exact regWord_writeVoice s v x w h (hvstat v x rfl) herr hlast
  | cmd => rfl
  | _ => exact regWord_raise _ _ _ _ herr hlast

/-! ### What a write changes of the reads -/

/-- A host write of a register leaves the map (00_scope.md R6). -/
theorem regOf_writeReg (s : State) (r : Reg) (w : Word) (b : HostAddr) : (s.writeReg r w).regOf b = s.regOf b := by
  by_cases hr : r = .err
  · subst hr
    rfl
  · have hsame := (writeReg_changes s w hr).sameIdentity
    rw [State.regOf, hsame.numVoices, hsame.numGroups, State.regOf]

/-- An address reads the same where the map and the word of its register are the same. -/
theorem readReg_congr {s t : State} {b : HostAddr} (hmap : t.regOf b = s.regOf b)
    (h : ∀ q, s.regOf b = some q → regWord t q = regWord s q) : readReg t b = readReg s b := by
  rw [readReg_eq_getD, readReg_eq_getD, hmap]
  exact congrArg (·.getD 0#32) (Option.map_congr h)

/-- Settles O21: the written address has another register than b, and its write leaves the word of b's. -/
theorem hostWriteLeavesOtherAddresses : Obligations.HostWriteLeavesOtherAddresses := by
  intro s t a b w hcmd hexec hba herr hlast hvstat
  have hq {q : Reg} (hb : s.regOf b = some q) : q ≠ .err ∧ q ≠ .lastErr :=
    ⟨fun h => herr (eq_of_address hb (h ▸ rfl)), fun h => hlast (eq_of_address hb (h ▸ rfl))⟩
  cases ha : s.regOf a with
  | none =>
    obtain rfl := Host.Outcome.next.inj ((execWr_of_unmapped w ha).symm.trans hexec)
    refine readReg_congr rfl fun q hb => ?_
    obtain ⟨hqerr, hqlast⟩ := hq hb
    exact regWord_raise _ _ _ _ hqerr hqlast
  | some r =>
    have hr : r ≠ .cmd := fun h => hcmd (eq_of_address ha (h ▸ rfl))
    obtain rfl := Host.Outcome.next.inj ((execWr_of_regOf w ha hr).symm.trans hexec)
    refine readReg_congr (regOf_writeReg ..) fun q hb => ?_
    obtain ⟨hqerr, hqlast⟩ := hq hb
    refine regWord_writeReg s w ?_ hqerr hqlast ?_
    · exact fun h => hba (eq_of_address hb (h ▸ (address_of_regOf ha).symm))
    · rintro v x rfl rfl
      exact hvstat (eq_vstat_of_regOf ha hb)

end Sys2Proof.Machine
end

section
/-! Words and their fields (30_encoding.md R140 to R146): the decoder undoes the encoder, and takes nothing but
what the encoder builds. -/

namespace Sys2Proof.Machine

/-! ### Decoding what is encoded -/

/-- An instruction whose must-be-zero bits were checked (30_encoding.md R148). -/
theorem whenZero_eq_ok {zero : Bool} {i j : Instr} : whenZero zero i = .ok j ↔ zero = true ∧ i = j := by
  cases zero <;> simp [whenZero]

/-- A write frame is a host write (30_encoding.md R141). -/
theorem decodeFrame_write (a : HostAddr) (d : Word) : decodeFrame (0x8000#16 ++ a ++ d) = .ok (.wr a d) := by
  simp [decodeFrame]

/-- A read frame without data is a host read (30_encoding.md R141). -/
theorem decodeFrame_read (a : HostAddr) : decodeFrame (0x0000#16 ++ a ++ 0x00000000#32) = .ok (.rd a) := by
  simp [decodeFrame]

/-- NEWVOICE's IMM carries its group above its channel (30_encoding.md R145). -/
theorem newvoice_group (g : BitVec 4) (ch : Byte) : (0#4 ++ g ++ ch).extractLsb' 8 4 = g := by
  rw [BitVec.extractLsb'_append_eq_of_le (by decide), BitVec.extractLsb'_append_eq_right]

/-- NEWVOICE's IMM carries its group and its channel (30_encoding.md R145). -/
theorem decodeCommand_newvoice (v : Byte) (g : BitVec 4) (ch : Byte) :
    decodeCommand (commandWord 0x01#8 v (0#4 ++ g ++ ch)) = .ok (.newvoice v g ch) := by
  have hzero : (0#4 ++ g ++ ch).extractLsb' 12 4 = 0#4 := by
    rw [BitVec.extractLsb'_append_eq_of_le (by decide), BitVec.extractLsb'_append_eq_left]
  have hchannel : (0#4 ++ g ++ ch).extractLsb' 0 8 = ch := BitVec.extractLsb'_append_eq_right
  simp [decodeCommand, whenZero_eq_ok, hzero, newvoice_group, hchannel]

/-- SETDO's IMM carries its value in bit 0 (30_encoding.md R146). -/
theorem decodeCommand_setdo (d : Byte) (value : BitVec 1) :
    decodeCommand (commandWord 0x12#8 d (0#15 ++ value)) = .ok (.setdo d value) := by
  have hzero : (0#15 ++ value).extractLsb' 1 15 = 0#15 := BitVec.extractLsb'_append_eq_left
  have hvalue : (0#15 ++ value).extractLsb' 0 1 = value := BitVec.extractLsb'_append_eq_right
  simp [decodeCommand, whenZero_eq_ok, hzero, hvalue]

/-- Settles O1: by the instruction; the fields of a built word are the ones it was built of. -/
theorem decodeOfEncodeIsInstruction : Obligations.DecodeOfEncodeIsInstruction := by
  intro i
  cases i with
  | rd a => exact decodeFrame_read a
  | wr a d => exact decodeFrame_write a d
  | newvoice v g ch => exact decodeCommand_newvoice v g ch
  | setdo d value => exact decodeCommand_setdo d value
  | _ => simp [encode, decode, decodeCommand, whenZero_eq_ok]

/-! ### Encoding what was decoded -/

/-- The must-be-zero bits, the group and the channel make up NEWVOICE's IMM (30_encoding.md R145). -/
theorem newvoice_fields (imm : Half) :
    imm.extractLsb' 12 4 ++ imm.extractLsb' 8 4 ++ imm.extractLsb' 0 8 = imm := by
  rw [BitVec.extractLsb'_append_extractLsb'_eq_extractLsb' (show 12 = 8 + 4 from rfl)]
  exact BitVec.extractLsb'_append_extractLsb'

/-- A word is the one built of its opcode, its IDX and its IMM (30_encoding.md R143). -/
theorem commandWord_of_fields {w : Word} {n : ℕ} {idx : Byte} {imm : Half} (hopc : (cmdOpc w).toNat = n)
    (hidx : cmdIdx w = idx) (himm : cmdImm w = imm) : commandWord (BitVec.ofNat 8 n) idx imm = w := by
  subst hopc hidx himm
  rw [BitVec.ofNat_toNat, BitVec.setWidth_eq]
  exact commandWord_fields w

/-- A command word is built of the opcode and the operands it was decoded to (30_encoding.md R144 to R146). -/
theorem encode_of_decodeCommand {w : Word} {i : Instr} (h : decodeCommand w = .ok i) : encode i = .command w := by
  unfold decodeCommand at h
  split at h
  -- SETAO has no must-be-zero bit, and a reserved opcode does not decode.
  case h_9 hopc =>
    obtain rfl := Except.ok.inj h
    exact congrArg _ (commandWord_of_fields hopc rfl rfl)
  case h_16 => cases h
  all_goals obtain ⟨hzero, rfl⟩ := whenZero_eq_ok.1 h
  -- NEWVOICE and SETDO have operands in IMM beside the must-be-zero bits.
  case h_2 hopc =>
    have himm := newvoice_fields (cmdImm w)
    rw [beq_iff_eq.1 hzero] at himm
    exact congrArg _ (commandWord_of_fields hopc rfl himm.symm)
  case h_10 hopc =>
    have himm : (cmdImm w).extractLsb' 1 15 ++ (cmdImm w).extractLsb' 0 1 = cmdImm w :=
      BitVec.extractLsb'_append_extractLsb'
    rw [beq_iff_eq.1 hzero] at himm
    exact congrArg _ (commandWord_of_fields hopc rfl himm.symm)
  -- The others have IMM zero, and those without an operand IDX too.
  all_goals
    rename_i hopc
    simp only [Bool.and_eq_true, beq_iff_eq] at hzero
  case h_1 | h_7 | h_8 | h_11 | h_13 => exact congrArg _ (commandWord_of_fields hopc hzero.1 hzero.2)
  all_goals exact congrArg _ (commandWord_of_fields hopc rfl hzero)

/-- A frame is built of the access it was decoded to (30_encoding.md R141, R142). -/
theorem encode_of_decodeFrame {f : Frame} {i : Instr} (h : decodeFrame f = .ok i) : encode i = .frame f := by
  have hfields := frame_fields f
  simp only [decodeFrame, ite_not] at h
  split at h
  case isFalse => cases h
  case isTrue hres =>
    rw [hres] at hfields
    split at h
    case isTrue hw =>
      obtain rfl := Except.ok.inj h
      rw [hw] at hfields
      exact congrArg _ hfields
    case isFalse hw =>
      split at h
      case isFalse => cases h
      case isTrue hdata =>
        obtain rfl := Except.ok.inj h
        rw [Bool.eq_false_iff.2 hw, hdata] at hfields
        exact congrArg _ hfields

/-- Settles O2: the checked bits are the ones the encoder writes as zero. -/
theorem encodeOfDecodeIsCode : Obligations.EncodeOfDecodeIsCode := by
  intro c i h
  cases c with
  | frame f => exact encode_of_decodeFrame h
  | command w => exact encode_of_decodeCommand h

/-- Settles O3: closed words, by evaluating the decoder. -/
theorem writtenOutWordsDecode : Obligations.WrittenOutWordsDecode := by
  unfold Obligations.WrittenOutWordsDecode
  decide

end Sys2Proof.Machine
end

section
/-! Words and frames that are refused (30_encoding.md R142, R147, R148): an encoded command has no reserved
opcode and no must-be-zero bit set, and its meaning records an index out of range, so a word that fails a check is
recorded and has no other effect. -/

namespace Sys2Proof.Machine

/-! ### The record of a refusal -/

/-- The record of BadCommand (60_exceptions.md R372, R373). -/
theorem raise_badCommand (s : State) (i o : Byte) : s.raise .badCommand i o = s.recorded 0 0x20#8 i o (labelOf o) := by
  simp [State.raise, State.recorded, State.emit, labelOf, subsystemOf, errorCode, errorMask, errorBit]

/-- The record of BadRegister at a host access (30_encoding.md R142). -/
theorem raise_badRegister (s : State) (i : Byte) {o : Byte} (h : 0x17 < o.toNat) :
    s.raise .badRegister i o = s.recorded 8 0x23#8 i o .env := by
  simp [State.raise, State.recorded, State.emit, subsystemOf, errorCode, errorMask, errorBit, h]

/-- A command word that fails a check is recorded with its own IDX and opcode (30_encoding.md R148). -/
theorem badCommandWord_eq (s : State) (w : Word) :
    s.badCommandWord w = s.recorded 0 0x20#8 (cmdIdx w) (cmdOpc w) (labelOf (cmdOpc w)) :=
  raise_badCommand ..

/-- A write to CMD executes its data (40_host_access.md R188). -/
theorem exec_wr_cmd (s : State) (w : Word) : exec (.wr 0x0008#16 w) s = execCommand w s := by
  have hcmd : s.regOf 0x0008#16 = some .cmd := regOf_global s (by decide)
  simp only [exec, execWr, hcmd]

/-! ### Checks 1 and 2 on an encoded command -/

/-- Every encoding has the bits that its row of spec/opcode_table.json fixes (30_encoding.md R141, R144). -/
theorem encode_matchesTable : ∀ i, Laws.MatchesTable.Statement i
  | .rd a => Laws.MatchesTable.rd a
  | .wr a d => Laws.MatchesTable.wr a d
  | .nop => Laws.MatchesTable.nop
  | .newvoice v g ch => Laws.MatchesTable.newvoice v g ch
  | .start v => Laws.MatchesTable.start v
  | .endNote v => Laws.MatchesTable.endNote v
  | .process v => Laws.MatchesTable.process v
  | .update v => Laws.MatchesTable.update v
  | .tick => Laws.MatchesTable.tick
  | .beginAal => Laws.MatchesTable.beginAal
  | .setao d value => Laws.MatchesTable.setao d value
  | .setdo d value => Laws.MatchesTable.setdo d value
  | .flush => Laws.MatchesTable.flush
  | .startconv d => Laws.MatchesTable.startconv d
  | .poll => Laws.MatchesTable.poll
  | .validate b => Laws.MatchesTable.validate b
  | .resetboard b => Laws.MatchesTable.resetboard b

/-- Bits that a row's mask fixes as zero are zero in every word of the row. -/
theorem and_eq_zero_of_row {w mask fixed zeros : Word} (hrow : w &&& mask = fixed) (hmask : mask &&& zeros = zeros)
    (hfixed : fixed &&& zeros = 0#32) : w &&& zeros = 0#32 := by
  rw [← hmask, ← BitVec.and_assoc, hrow, hfixed]

section encoded
variable {w : Word} {i : Instr} (henc : encode i = .command w)
include henc

/-- No opcode of 30_encoding.md R144 is reserved. -/
theorem reservedOpcode_of_encode : reservedOpcode (cmdOpc w) = false := by
  cases i
  case rd | wr => cases henc
  all_goals
    cases henc
    rw [cmdOpc_commandWord]
    rfl

/-- The encoder sets no must-be-zero bit (30_encoding.md R145, R146). -/
theorem mustBeZero_of_encode : w &&& mustBeZero (cmdOpc w) = 0#32 := by
  have hrow := encode_matchesTable i
  cases i
  case rd | wr => cases henc
  all_goals
    cases henc
    rw [cmdOpc_commandWord]
    exact and_eq_zero_of_row hrow (by decide) (by decide)

/-- NOP alone has opcode 0, and its word is 0 (30_encoding.md R144, R150). -/
theorem eq_zero_of_encode (hopc : cmdOpc w = 0x00#8) : w = 0#32 := by
  cases i
  case rd | wr => cases henc
  all_goals
    cases henc
    rw [cmdOpc_commandWord] at hopc
  case nop => rfl
  all_goals exact absurd hopc (by decide)

end encoded

/-! ### Check 3 -/

/-- A voice out of range (30_encoding.md R148). -/
theorem withVoice_of_le {s : State} {v : Byte} (h : s.numVoices ≤ v.toNat) (op : Byte) (f : State → State) :
    s.withVoice v op f = s.raise .badCommand v op :=
  if_neg h.not_gt

/-- A board out of range (30_encoding.md R148). -/
theorem withBoard_of_le {s : State} {b : Byte} (h : s.numBoards ≤ b.toNat) (op : Byte) (f : State → State) :
    s.withBoard b op f = s.raise .badCommand b op :=
  if_neg h.not_gt

/-- Check 3 on a word built of its fields. -/
theorem indexOutOfRange_commandWord (s : State) (opc idx : Byte) (imm : Half) :
    indexOutOfRange s (commandWord opc idx imm) ↔
      (0x01 ≤ opc.toNat ∧ opc.toNat ≤ 0x05 ∧ s.numVoices ≤ idx.toNat) ∨
      (opc = 0x01#8 ∧ s.numGroups ≤ (imm.extractLsb' 8 4).toNat) ∨
      ((opc = 0x16#8 ∨ opc = 0x17#8) ∧ s.numBoards ≤ idx.toNat) := by
  have hgroup : (commandWord opc idx imm).extractLsb' 8 4 = imm.extractLsb' 8 4 :=
    BitVec.extractLsb'_append_eq_of_add_le (by decide)
  simp only [indexOutOfRange, cmdOpc_commandWord, cmdIdx_commandWord, hgroup]

/-- NEWVOICE with its voice or its group out of range (41_voice.md R201). -/
theorem execNewvoice_of_le {s : State} {v : Byte} {g : BitVec 4} (ch : Byte)
    (h : s.numVoices ≤ v.toNat ∨ s.numGroups ≤ g.toNat) :
    execNewvoice v g ch s = .next (s.raise .badCommand v 0x01#8) := by
  refine congrArg Host.Outcome.next ?_
  rcases h with hv | hg
  · exact withVoice_of_le hv ..
  · rw [State.withVoice, if_neg hg.not_gt, ite_self]

/-- A command with an index out of range is only recorded (30_encoding.md R148, check 3). -/
theorem exec_of_indexOutOfRange {s : State} {w : Word} {i : Instr} (henc : encode i = .command w)
    (h : indexOutOfRange s w) : exec i s = .next (s.badCommandWord w) := by
  cases i
  case rd | wr => cases henc
  all_goals
    cases henc
    simp only [State.badCommandWord, cmdIdx_commandWord, cmdOpc_commandWord]
    rw [indexOutOfRange_commandWord] at h
  case newvoice v g ch => exact execNewvoice_of_le ch (by simpa [newvoice_group] using h)
  case start v | endNote v | process v | update v =>
    exact congrArg Host.Outcome.next (withVoice_of_le (by simpa using h) ..)
  case validate b | resetboard b => exact congrArg Host.Outcome.next (withBoard_of_le (by simpa using h) ..)
  all_goals simp at h

/-! ### The refusals -/

/-- Settles O4: a word that fails check 1 or 2 is no encoding and so does not decode; one that fails check 3 may,
and then its meaning records it. -/
theorem failedDecodeCheckOnlyRecords : Obligations.FailedDecodeCheckOnlyRecords := by
  intro s w hfails
  rw [exec_wr_cmd, ← badCommandWord_eq]
  by_cases hcommand : ∃ i, decodeCommand w = .ok i ∧ isCommand i = true
  · obtain ⟨i, hdec, hi⟩ := hcommand
    have henc := encode_of_decodeCommand hdec
    rw [execCommand_of_decoded s hdec hi]
    rcases hfails with hreserved | hzero | hindex
    · exact absurd hreserved (Bool.eq_false_iff.1 (reservedOpcode_of_encode henc))
    · exact absurd (mustBeZero_of_encode henc) hzero
    · exact exec_of_indexOutOfRange henc hindex
  · exact execCommand_of_not_command s (by simpa using hcommand)

/-- A frame with RES not zero is malformed (30_encoding.md R142). -/
theorem decodeFrame_of_res {f : Frame} (h : frameRes f ≠ 0#15) : decodeFrame f = .error .malformedFrame := by
  rw [decodeFrame, if_pos h]

/-- A read frame with data is malformed (30_encoding.md R142). -/
theorem decodeFrame_of_read_data {f : Frame} (hw : frameW f = false) (h : frameData f ≠ 0#32) :
    decodeFrame f = .error .malformedFrame := by
  simp [decodeFrame, hw, h]

/-- Settles O7: the frame is malformed, and W tells what its rejection answers. -/
theorem malformedFrameOnlyRecords : Obligations.MalformedFrameOnlyRecords := by
  intro s f rest hframes
  refine ⟨fun (hw : frameW f = true) hres => ?_, fun (hw : frameW f = false) hbad => ?_⟩
  · rw [step_of_malformed hframes (decodeFrame_of_res hres), State.rejectFrame, if_pos hw,
      raise_badRegister _ _ (by decide)]
  · have hmalformed : decodeFrame f = .error .malformedFrame :=
      hbad.elim decodeFrame_of_res (decodeFrame_of_read_data hw)
    rw [step_of_malformed hframes hmalformed, State.rejectFrame, if_neg (by simp [hw]),
      raise_badRegister _ _ (by decide)]
    rfl

/-- Settles O52: the word 0 decodes to NOP, whose meaning is no change; another word of opcode 0 is no encoding. -/
theorem nopDoesNothing : Obligations.NopDoesNothing := by
  refine fun s => ⟨rfl, ?_, fun w hopc hw => ?_⟩
  · rw [exec_wr_cmd, execCommand_of_decoded (i := .nop) s (by decide) rfl]
    rfl
  · have hnone (i : Instr) (hdec : decodeCommand w = .ok i) : isCommand i = false :=
      absurd (eq_zero_of_encode (encode_of_decodeCommand hdec) hopc) hw
    rw [exec_wr_cmd, execCommand_of_not_command s hnone, badCommandWord_eq, hopc]
    rfl

end Sys2Proof.Machine
end

section
/-! Host accesses by the register they meet (40_host_access.md): a step runs what an encoding says, a read-only
register refuses a write, a checked store takes the legal values, and the control words keep what is written. -/

namespace Sys2Proof.Machine

open Sys2Proof.Config

/-! ### A step on an encoding -/

/-- Only the two host accesses are encoded as frames (30_encoding.md R140). -/
theorem isCommand_of_encode {i : Instr} {w : Word} (h : encode i = .command w) : isCommand i = true := by
  cases i
  case rd | wr => cases h
  all_goals rfl

/-- The frame of an encoded command is a write of its word to CMD, which executes it (30_encoding.md R158). -/
theorem exec_wr_cmd_of_encode {i : Instr} {w : Word} (s : State) (h : encode i = .command w) :
    exec (.wr cmdAddr w) s = exec i s := by
  have hdec := decodeOfEncodeIsInstruction i
  rw [h] at hdec
  exact (exec_wr_cmd s w).trans (execCommand_of_decoded s hdec (isCommand_of_encode h))

/-- Settles O6: a host access decodes to itself, a command to the write of CMD that executes it. -/
theorem stepRunsEveryEncodedInstruction : Obligations.StepRunsEveryEncodedInstruction := by
  intro s i
  cases henc : encode i with
  | frame f =>
    have hdec := decodeOfEncodeIsInstruction i
    rw [henc] at hdec
    exact step_of_decoded rfl hdec
  | command w => exact (step_of_decoded rfl (decodeFrame_write cmdAddr w)).trans (exec_wr_cmd_of_encode s henc)

/-! ### Writes by their outcome -/

/-- A write of a global register other than CMD (40_host_access.md R181). -/
theorem exec_wr_global (s : State) {a : HostAddr} {r : Reg} (w : Word) (ha : a.toNat < 0x20)
    (hr : globalRegAt a.toNat = some r) (hcmd : r ≠ .cmd) : exec (.wr a w) s = .next (s.writeReg r w) :=
  execWr_of_regOf w ((regOf_global s ha).trans hr) hcmd

/-- The record of ParamRejected at a host access (60_exceptions.md R372, R373). -/
theorem raise_paramRejected (s : State) (i : Byte) {o : Byte} (h : 0x17 < o.toNat) :
    s.raise .paramRejected i o = s.recorded 2 0x21#8 i o .env := by
  simp [State.raise, State.recorded, State.emit, subsystemOf, errorCode, errorMask, errorBit, h]

section window
variable {s : State} {v o : ℕ} {r : VoiceReg} {w : Word} (hv : v < s.numVoices) (hlt : v < 64)
  (hr : voiceRegAt o = some r)
include hv hlt hr

/-- A write that a voice register takes changes the voice alone (40_host_access.md R181). -/
theorem exec_wr_voice_of_ok {y : Voice} (hy : writeVoiceReg w (s.voice v) r = .ok y) :
    exec (.wr (voiceAddr v o) w) s = .next (s.setVoice v y) := by
  have ho : o ≤ 0x11 := (voiceRegAt_isSome_iff o).1 (hr ▸ rfl)
  rw [exec_wr_voice w hv hlt (by omega) hr, State.writeVoice, hy]

/-- A write that a voice register refuses records the error with the voice's number (40_host_access.md R181). -/
theorem exec_wr_voice_of_error {e : ErrorKind} (he : writeVoiceReg w (s.voice v) r = .error e) :
    exec (.wr (voiceAddr v o) w) s = .next (s.raise e (BitVec.ofNat 8 v) 0xFE#8) := by
  have ho : o ≤ 0x11 := (voiceRegAt_isSome_iff o).1 (hr ▸ rfl)
  rw [exec_wr_voice w hv hlt (by omega) hr, State.writeVoice, he]

end window

/-! ### Read-only registers -/

/-- The addresses of the read-only registers are mapped (20_memory.md R102). -/
theorem mapped_of_readOnlyGlobal {numVoices numGroups n : ℕ} (h : readOnlyGlobal numGroups n) :
    mapped numVoices numGroups n := by
  simp only [readOnlyGlobal, List.mem_cons, List.not_mem_nil, or_false] at h
  unfold mapped
  omega

/-- A global register at a read-only address refuses its write (40_host_access.md R182). -/
theorem writeReg_global_of_readOnly {numGroups n : ℕ} {r : Reg} (hn : n < 0x20) (hr : globalRegAt n = some r)
    (h : readOnlyGlobal numGroups n) (s : State) (w : Word) :
    r ≠ .cmd ∧ s.writeReg r w = s.raise .badRegister 0#8 0xFE#8 := by
  simp only [readOnlyGlobal, List.mem_cons, List.not_mem_nil, or_false] at h
  have haddr : n = 0x00 ∨ n = 0x01 ∨ n = 0x04 ∨ n = 0x06 ∨ n = 0x07 ∨ n = 0x09 ∨ n = 0x0A ∨ n = 0x0C := by omega
  rcases haddr with rfl | rfl | rfl | rfl | rfl | rfl | rfl | rfl <;> cases hr <;> exact ⟨nofun, rfl⟩

/-- What stands at a read-only address outside the voice windows refuses its write (40_host_access.md R182). -/
theorem Reg.StandsAt.writeReg_of_readOnly {numVoices numGroups n : ℕ} {r : Reg}
    (hstands : r.StandsAt numVoices numGroups n) (hgroups : numGroups ≤ 16) (h : readOnlyGlobal numGroups n)
    (s : State) (w : Word) : r ≠ .cmd ∧ s.writeReg r w = s.raise .badRegister 0#8 0xFE#8 := by
  cases hstands with
  | global r hn hr => exact writeReg_global_of_readOnly hn hr h s w
  | cfgW0 | cfgW1 | voice =>
    -- CFG_W0, CFG_W1 and the windows stand outside the read-only addresses.
    simp only [readOnlyGlobal, List.mem_cons, List.not_mem_nil, or_false] at h
    omega
  | _ => exact ⟨nofun, rfl⟩

/-- The read-only registers of a voice refuse their writes (40_host_access.md R182). -/
theorem writeVoiceReg_of_readOnly {o : ℕ} (h : o ∈ [0x01, 0x02, 0x0D, 0x0E, 0x0F, 0x10, 0x11]) :
    ∃ r, voiceRegAt o = some r ∧ ∀ w x, writeVoiceReg w x r = .error .badRegister := by
  simp only [List.mem_cons, List.not_mem_nil, or_false] at h
  rcases h with rfl | rfl | rfl | rfl | rfl | rfl | rfl <;> exact ⟨_, rfl, fun _ _ => rfl⟩

/-- Settles O16: a read-only address outside the windows is mapped and its register refuses, one in a window does by
its offset. -/
theorem readOnlyWriteIsRefused : Obligations.ReadOnlyWriteIsRefused := by
  intro s w
  refine ⟨fun a hgroups hro => ?_, fun v o hv hlt ho => ?_⟩
  · obtain ⟨r, hr⟩ := Option.isSome_iff_exists.1 ((regOf_isSome_iff a hgroups).2 (mapped_of_readOnlyGlobal hro))
    obtain ⟨hcmd, hwrite⟩ := (standsAt_of_regOf hr).writeReg_of_readOnly hgroups hro s w
    rw [← raise_badRegister s 0#8 (by decide), ← hwrite]
    exact execWr_of_regOf w hr hcmd
  · obtain ⟨r, hr, hrefused⟩ := writeVoiceReg_of_readOnly ho
    rw [exec_wr_voice_of_error hv hlt hr (hrefused w _), raise_badRegister _ _ (by decide)]

/-! ### Checked stores -/

/-- Finite: the exponent field is not 0xFF (40_host_access.md R184). -/
theorem fFinite_iff_exponent (w : F32) : fFinite w = true ↔ w.extractLsb' 23 8 ≠ 0xFF#8 :=
  bne_iff_ne

/-- The legal values of TOP, BOTTOM, SUSTAIN and CURRENT (40_host_access.md R184). -/
theorem legalLevel_iff_fields (w : F32) :
    legalLevel w = true ↔ w.extractLsb' 23 8 ≠ 0xFF#8 ∧ fge w fZero = true ∧ fle w fOne = true := by
  rw [legalLevel, Bool.and_eq_true, Bool.and_eq_true, fFinite_iff_exponent, and_assoc]

/-- The legal values of the times, EXPR and TICK_DT (40_host_access.md R184). -/
theorem legalTime_iff_fields (w : F32) :
    legalTime w = true ↔ w.extractLsb' 23 8 ≠ 0xFF#8 ∧ fge w fZero = true := by
  rw [legalTime, Bool.and_eq_true, fFinite_iff_exponent]

/-- The legal values of SCALE, which is writable while the voice is unbound (40_host_access.md R184, R185). -/
theorem legalScale_iff_fields (w : F32) (bound : Bool) :
    (legalScale w && !bound) = true ↔
      w.extractLsb' 23 8 ≠ 0xFF#8 ∧ fge w fZero = true ∧ fle w f65535 = true ∧ bound = false := by
  rw [legalScale, Bool.and_eq_true, Bool.and_eq_true, Bool.and_eq_true, fFinite_iff_exponent, Bool.not_eq_true',
    and_assoc, and_assoc]

/-- A write of TICK_DT (40_host_access.md R184). -/
theorem exec_wr_tickDt (s : State) (w : Word) :
    exec (.wr 0x0005#16 w) s =
      .next (if legalTime w then { s with tickDt := w } else s.raise .paramRejected 0#8 0xFE#8) := by
  rw [exec_wr_global (r := .tickDt) s w (by decide) rfl nofun, State.writeReg]

/-- Settles O19: each register's check decides between its store and the record of ParamRejected. -/
theorem checkedStoreTakesLegalValuesOnly : Obligations.CheckedStoreTakesLegalValuesOnly := by
  intro s v w hv hlt x finite put refused
  have hstores {o : ℕ} {r : VoiceReg} {y : Voice} (hr : voiceRegAt o = some r) (hy : writeVoiceReg w x r = .ok y) :
      exec (.wr (voiceAddr v o) w) s = .next (put y) := exec_wr_voice_of_ok hv hlt hr hy
  have hrefuses {o : ℕ} {r : VoiceReg} (hr : voiceRegAt o = some r)
      (he : writeVoiceReg w x r = .error .paramRejected) : exec (.wr (voiceAddr v o) w) s = .next refused :=
    (exec_wr_voice_of_error hv hlt hr he).trans (congrArg _ (raise_paramRejected _ _ (by decide)))
  rw [← legalLevel_iff_fields, ← legalTime_iff_fields, ← legalScale_iff_fields, exec_wr_tickDt]
  simp only [List.forall_mem_cons, List.not_mem_nil, false_imp_iff, implies_true, and_true]
  refine ⟨fun h => ⟨?_, ?_, ?_, ?_⟩, fun h => ⟨?_, ?_, ?_, ?_⟩, fun h => ⟨?_, ?_, ?_, ?_, ?_⟩,
    fun h => ⟨⟨?_, ?_, ?_, ?_⟩, ?_⟩, fun h => ?_, fun h => ?_, fun h => ?_, fun h => ?_⟩
  · exact hstores (r := .top) rfl (if_pos h)
  · exact hstores (r := .bottom) rfl (if_pos h)
  · exact hstores (r := .sustain) rfl (if_pos h)
  · exact hstores (r := .current) rfl (if_pos h)
  · exact hrefuses (r := .top) rfl (if_neg h)
  · exact hrefuses (r := .bottom) rfl (if_neg h)
  · exact hrefuses (r := .sustain) rfl (if_neg h)
  · exact hrefuses (r := .current) rfl (if_neg h)
  · exact hstores (r := .attackMs) rfl (if_pos h)
  · exact hstores (r := .decayMs) rfl (if_pos h)
  · exact hstores (r := .releaseMs) rfl (if_pos h)
  · exact hstores (r := .expr) rfl (if_pos h)
  · rw [if_pos h]
  · exact hrefuses (r := .attackMs) rfl (if_neg h)
  · exact hrefuses (r := .decayMs) rfl (if_neg h)
  · exact hrefuses (r := .releaseMs) rfl (if_neg h)
  · exact hrefuses (r := .expr) rfl (if_neg h)
  · rw [if_neg h, raise_paramRejected _ _ (by decide)]
  · exact hstores (r := .scale) rfl (if_pos h)
  · exact hrefuses (r := .scale) rfl (if_neg h)
  · exact hstores (r := .modScale) rfl (if_pos ((fFinite_iff_exponent w).2 h))
  · exact hrefuses (r := .modScale) rfl (if_neg fun hfin => h ((fFinite_iff_exponent w).1 hfin))

/-! ### Write-1-to-clear and plain stores -/

/-- Settles O17: ERR keeps the bits written 0, and READY is cleared by a written 1. -/
theorem writeOneClears : Obligations.WriteOneClears := by
  refine fun s w => ⟨⟨s.err &&& ~~~(w.extractLsb' 0 9), ?_, fun k hk => ?_⟩, ?_⟩
  · exact exec_wr_global (r := .err) s w (by decide) rfl nofun
  · simp [hk]
  · rw [exec_wr_global (r := .convStatus) s w (by decide) rfl nofun, State.writeReg]
    cases hw : w.getLsbD 1 <;> simp

/-- To modify an entry is to set it to its image; the default is read only where there is no entry to set. -/
theorem modify_eq_set_getD {α : Type} (f : α → α) (l : List α) (i : ℕ) (d : α) :
    l.modify i f = l.set i (f (l.getD i d)) := by
  rw [List.modify_eq_set_getElem?]
  rcases Nat.lt_or_ge i l.length with hi | hi
  · simp [hi]
  · simp [hi, List.set_eq_of_length_le hi]

/-- Settles O18: the stores of the four registers at their addresses. -/
theorem controlWritesStore : Obligations.ControlWritesStore := by
  refine fun s w => ⟨?_, ?_, fun i hi => ⟨?_, ?_⟩⟩
  · exact exec_wr_global (r := .gctrl) s w (by decide) rfl nofun
  · exact exec_wr_global (r := .adcCfg) s w (by decide) rfl nofun
  · rw [State.descriptor, ← modify_eq_set_getD (fun d : Descriptor => { d with w0 := w })]
    exact execWr_of_regOf w (regOf_cfgW0 s hi) nofun
  · rw [State.descriptor, ← modify_eq_set_getD (fun d : Descriptor => { d with w1 := w })]
    exact execWr_of_regOf w (regOf_cfgW1 s hi) nofun

end Sys2Proof.Machine
end

section
/-! The envelope's order (41_voice.md R205, R219): but for START of an idle voice, no command takes a voice back along
the states, so a step follows the envelope. -/

namespace Sys2Proof.Machine

open Sys2Proof.Config

/-! ### The order -/

/-- The place of a state along the envelope, IDLE at its end; an illegal state stands at its start, so that whatever
Process makes of it lies onward. -/
def EnvState.stage : EnvState → ℕ
  | .start | .illegal6 | .illegal7 => 0
  | .attack => 1
  | .decay => 2
  | .sustain => 3
  | .release => 4
  | .idle => 5

/-- The envelope's order is that of the stages, with the one step from IDLE to START. -/
theorem EnvState.follows_iff (a b : EnvState) :
    a.follows b = true ↔ (a ≠ .illegal6 ∧ a ≠ .illegal7) ∧ (b ≠ .illegal6 ∧ b ≠ .illegal7) ∧
      (a.stage ≤ b.stage ∨ a = .idle ∧ b = .start) := by
  cases a <;> cases b <;> decide

theorem EnvState.stage_le_idle (a : EnvState) : a.stage ≤ EnvState.idle.stage := by
  cases a <;> decide

theorem EnvState.stage_le_release {a : EnvState} (h : a ≠ .idle) : a.stage ≤ EnvState.release.stage := by
  cases a
  case idle => exact absurd rfl h
  all_goals decide

/-- Every voice is where it was or further along the envelope. -/
structure State.Onward (s t : State) : Prop where
  stage : ∀ v, (s.voice v).state.stage ≤ (t.voice v).state.stage

theorem State.Onward.trans {s t u : State} (h : s.Onward t) (k : t.Onward u) : s.Onward u :=
  ⟨fun v => (h.stage v).trans (k.stage v)⟩

theorem State.Onward.of_voices {s t : State} (h : t.voices = s.voices) : s.Onward t := by
  refine ⟨fun v => ?_⟩
  rw [State.voice, State.voice, h]

/-- A voice is written with a state that lies onward. -/
theorem State.onward_setVoice {s : State} {v : ℕ} {x : Voice} (h : (s.voice v).state.stage ≤ x.state.stage) :
    s.Onward (s.setVoice v x) := by
  refine ⟨fun w => ?_⟩
  by_cases hvw : v = w
  · subst hvw
    by_cases hv : v < s.voices.length
    · rwa [State.setVoice_voice_self _ _ _ hv]
    · rw [State.setVoice, List.set_eq_of_length_le (Nat.le_of_not_lt hv)]
  · rw [State.setVoice_voice_ne _ _ _ _ hvw]

/-! ### The voice commands -/

/-- The trigger end leads onward from every state but IDLE (41_voice.md R208). -/
theorem Voice.stage_le_triggerEnd {v : Voice} (h : v.state ≠ .idle) : v.state.stage ≤ v.triggerEnd.state.stage := by
  unfold Voice.triggerEnd
  split
  · exact le_rfl
  · exact EnvState.stage_le_release h

/-- START's entry and the trigger end lead onward from every state but IDLE (41_voice.md R207, R208). -/
theorem Voice.stage_le_enter (p : Params) {v : Voice} (h : v.state ≠ .idle) :
    v.state.stage ≤ (v.enter p).state.stage := by
  unfold Voice.enter
  dsimp only
  split
  next hstart =>
    rw [hstart]
    exact Nat.zero_le _
  next =>
    split
    · exact Voice.stage_le_triggerEnd h
    · exact le_rfl

/-- The state step of Process leads onward (41_voice.md R209 to R212). -/
theorem Voice.Advances.stage_le {p : Params} {dt : F32} {x y : Voice} (h : x.Advances p dt y) :
    x.state.stage ≤ y.state.stage := by
  cases h
  case attack h =>
    unfold Voice.attackStep
    dsimp only
    split_ifs <;> simp [h, EnvState.stage]
  case decay h =>
    unfold Voice.decayStep
    dsimp only
    split_ifs <;> simp [h, EnvState.stage]
  case sustain =>
    unfold Voice.sustainStep
    split_ifs <;> exact le_rfl
  all_goals exact le_rfl

/-- Process of a coherent voice leads onward: it advances, or it is cleared (41_voice.md R205). -/
theorem processVoice_onward {s : State} {v : ℕ} (dt : F32) (op : Byte) (h : (s.voice v).coherent = true) :
    s.Onward (s.processVoice v dt op) := by
  obtain ⟨hactive, -⟩ := (Voice.coherent_iff _).1 h
  by_cases hact : (s.voice v).active = true
  · have hv := State.lt_of_active hact
    rcases stateStep_cases dt op hv ((Voice.enter_active s.params _).trans hact) with
      ⟨y, hy, hstep⟩ | ⟨u, timer, hu, hstep⟩
    · rw [processVoice_of_stateStep hact hstep hv]
      exact State.onward_setVoice ((Voice.stage_le_enter s.params (hactive.1 hact)).trans hy.stage_le)
    · have hvoices : u.voices = s.voices := by rcases hu with rfl | rfl <;> rfl
      rw [processVoice_of_stateStep hact hstep (hvoices ▸ hv)]
      refine State.Onward.trans (t := u.decGroup _) (.of_voices hvoices) (State.onward_setVoice ?_)
      exact EnvState.stage_le_idle _
  · rw [State.processVoice, if_neg hact, if_pos (not_not.1 (mt hactive.2 hact))]
    exact .of_voices rfl

theorem setOut_voices (s : State) (d : Byte) (k : Kind) (value : Half) (op : Byte) :
    (s.setOut d k value op).voices = s.voices := by
  rw [setOut_rest]

/-- Update changes no state of a voice (41_voice.md R215). -/
theorem updateVoice_onward (s : State) (v : ℕ) (op : Byte) : s.Onward (s.updateVoice v op) := by
  unfold State.updateVoice
  dsimp only
  split
  · refine State.Onward.trans ?_ (.of_voices (setOut_voices ..))
    exact State.onward_setVoice le_rfl
  · exact .of_voices rfl

theorem bindVoice_onward (s : State) (v : Byte) (group : BitVec 4) (channel : Byte) :
    s.Onward (s.bindVoice v group channel) := by
  unfold State.bindVoice
  dsimp only
  split
  · exact .of_voices rfl
  · exact State.onward_setVoice le_rfl

theorem endVoice_onward (s : State) (v : ℕ) : s.Onward (s.endVoice v) := by
  unfold State.endVoice
  split
  · exact State.onward_setVoice le_rfl
  · exact .of_voices rfl

/-- A check of a voice index records BadCommand or goes on (30_encoding.md R148). -/
theorem withVoice_onward (v op : Byte) {f : State → State} {s : State} (hf : s.Onward (f s)) :
    s.Onward (s.withVoice v op f) := by
  unfold State.withVoice
  split
  · exact hf
  · exact .of_voices rfl

/-- The voices of a tick go onward one after another, each coherent as its turn comes (42_driver.md R262). -/
theorem tickVoices_onward {s : State} (op : Byte) (h : CountInv s) : s.Onward (s.tickVoices s.tickDt op) := by
  suffices hfold : ∀ (l : List ℕ) (u : State), CountInv u → u.tickDt = s.tickDt →
      u.Onward (l.foldl (State.tickVoice s.tickDt op) u) from hfold _ s h rfl
  intro l
  induction l with
  | nil => exact fun _ _ _ => .of_voices rfl
  | cons v rest ih =>
    intro u hu hdt
    obtain ⟨hchanges, htickDt⟩ := tickVoice_changes op u v
    rw [hdt] at hchanges htickDt
    refine State.Onward.trans ?_ (ih _ (hchanges.keep (fun _ _ => Change.countInv) hu) htickDt)
    unfold State.tickVoice
    split
    · exact (processVoice_onward _ op (hu.voice_coherent v)).trans (updateVoice_onward ..)
    · exact .of_voices rfl

theorem tickModulation_voices (s : State) : s.tickModulation.voices = s.voices := by
  unfold State.tickModulation
  dsimp only
  rw [askMod_rest]
  rfl

/-! ### The actuator abstraction layer -/

theorem foldl_voices {f : State → ℕ → State} (h : ∀ s b, (f s b).voices = s.voices) (l : List ℕ) (s : State) :
    (l.foldl f s).voices = s.voices := by
  induction l generalizing s with
  | nil => rfl
  | cons b rest ih => exact (ih (f s b)).trans (h s b)

theorem validateBoard_voices (s : State) (b : ℕ) (op : Byte) : (s.validateBoard b op).voices = s.voices :=
  (validateBoard_effect s b op).voices

theorem bringUp_voices (op : Byte) (s : State) (b : ℕ) : (s.bringUp op b).voices = s.voices := by
  unfold State.bringUp
  dsimp only
  split
  · exact (initBoard_effect ..).voices.trans (validateBoard_voices ..)
  · exact validateBoard_voices ..

theorem probeMux_voices (op : Byte) (s : State) (c : ℕ) : (s.probeMux op c).voices = s.voices := by
  unfold State.probeMux
  split
  · exact (busProbe_effect ..).voices
  · rfl

theorem busPhase_voices (s : State) : s.busPhase.voices = s.voices := by
  unfold State.busPhase
  dsimp only
  rw [foldl_voices (bringUp_voices _), foldl_voices (probeMux_voices _), State.emit_voices]

theorem beginTables_voices (s : State) : s.beginTables.voices = s.voices := by
  unfold State.beginTables
  split
  · rfl
  · split
    · rfl
    · split
      · rfl
      · exact busPhase_voices _

theorem startConversion_voices (s : State) (d : Byte) : (s.startConversion d).voices = s.voices := by
  unfold State.startConversion
  rcases translate_cases s d .ai 0x14#8 with ⟨-, -, h⟩ | ⟨-, h⟩ <;> rw [h] <;> dsimp only
  · split
    · split <;> exact (boardWrite_effect ..).voices
    · rfl
  · rfl

theorem pollConversion_voices (s : State) : s.pollConversion.voices = s.voices := by
  unfold State.pollConversion
  dsimp only
  split_ifs
  · rfl
  · rfl
  · exact (adcRead_effect ..).voices
  · exact (adcRead_effect ..).voices
  · exact ((adcRead_effect ..).trans (adcRead_effect ..)).voices
  · exact ((adcRead_effect ..).trans (adcRead_effect ..)).voices

theorem withBoard_voices (b op : Byte) {f : State → State} {s : State} (hf : (f s).voices = s.voices) :
    (s.withBoard b op f).voices = s.voices := by
  unfold State.withBoard
  split
  · exact hf
  · rfl

/-! ### A step -/

/-- Every voice is where it was or further along the envelope, or START has taken it from IDLE. -/
structure State.Along (s t : State) : Prop where
  voice : ∀ v,
    (s.voice v).state.stage ≤ (t.voice v).state.stage ∨ (s.voice v).state = .idle ∧ (t.voice v).state = .start

theorem State.Onward.along {s t : State} (h : s.Onward t) : s.Along t := ⟨fun v => .inl (h.stage v)⟩

theorem State.Along.of_voices {s t : State} (h : t.voices = s.voices) : s.Along t := (State.Onward.of_voices h).along

/-- START takes an inactive voice, which is IDLE, to START (41_voice.md R202). -/
theorem startVoice_along {s : State} (v : ℕ) (h : (s.voice v).coherent = true) : s.Along (s.startVoice v) := by
  unfold State.startVoice
  dsimp only
  split
  · exact State.Along.of_voices rfl
  next hstart =>
    simp only [Bool.or_eq_true, Bool.not_eq_true', not_or, Bool.not_eq_false, Bool.not_eq_true] at hstart
    obtain ⟨⟨⟨hbound, hinactive⟩, -⟩, -⟩ := hstart
    obtain ⟨hactive, -⟩ := (Voice.coherent_iff _).1 h
    refine ⟨fun w => ?_⟩
    rw [State.incGroup_voice]
    by_cases hvw : v = w
    · subst hvw
      rw [State.setVoice_voice_self _ _ _ (State.lt_of_bound hbound)]
      exact .inr ⟨not_not.1 (mt hactive.2 (Bool.eq_false_iff.1 hinactive)), rfl⟩
    · rw [State.setVoice_voice_ne _ _ _ _ hvw]
      exact .inl le_rfl

/-- Every command takes each voice along, all but START onward (41_voice.md R219). -/
theorem exec_command_along {i : Instr} {s t : State} (hi : isCommand i = true) (h : CountInv s)
    (hexec : exec i s = .next t) : s.Along t := by
  cases i
  case rd a => cases hi
  case wr a w => cases hi
  all_goals obtain rfl := Host.Outcome.next.inj hexec
  case start v =>
    unfold State.withVoice
    split
    · exact startVoice_along _ (h.voice_coherent _)
    · exact State.Along.of_voices rfl
  all_goals refine State.Onward.along ?_
  case nop => exact .of_voices rfl
  case newvoice v group channel =>
    refine withVoice_onward _ _ ?_
    split
    · exact bindVoice_onward ..
    · exact .of_voices rfl
  case endNote v => exact withVoice_onward _ _ (endVoice_onward ..)
  case process v => exact withVoice_onward _ _ (processVoice_onward _ _ (h.voice_coherent _))
  case update v =>
    refine withVoice_onward _ _ ?_
    split
    · exact updateVoice_onward ..
    · exact .of_voices rfl
  case tick =>
    have hlatched : CountInv s.tickModulation := (tickModulation_changes s).keep (fun _ _ => Change.countInv) h
    rw [← tickModulation_tickDt s]
    exact ((State.Onward.of_voices (tickModulation_voices s)).trans (tickVoices_onward _ hlatched)).trans
      (.of_voices (flushAll_effect ..).voices)
  case beginAal => exact .of_voices (beginTables_voices s)
  case setao d value => exact .of_voices (setOut_voices ..)
  case setdo d value => exact .of_voices (setOut_voices ..)
  case flush => exact .of_voices (flushAll_effect ..).voices
  case startconv d => exact .of_voices (startConversion_voices ..)
  case poll => exact .of_voices (pollConversion_voices s)
  case validate b => exact .of_voices (withBoard_voices _ _ (validateBoard_voices ..))
  case resetboard b => exact .of_voices (withBoard_voices _ _ (bringUp_voices ..))

/-- A write of CMD takes each voice along (40_host_access.md R188). -/
theorem execCommand_along {w : Word} {s t : State} (h : CountInv s) (hexec : execCommand w s = .next t) :
    s.Along t := by
  by_cases hcommand : ∃ i, decodeCommand w = .ok i ∧ isCommand i = true
  · obtain ⟨i, hdec, hi⟩ := hcommand
    exact exec_command_along hi h (execCommand_of_decoded s hdec hi ▸ hexec)
  · have hnot : ∀ i, decodeCommand w = .ok i → isCommand i = false := by simpa using hcommand
    rw [execCommand_of_not_command s hnot] at hexec
    exact Host.Outcome.next.inj hexec ▸ State.Along.of_voices rfl

/-- A host write of any register but CMD changes no state of a voice (40_host_access.md R181). -/
theorem writeReg_onward (s : State) (r : Reg) (w : Word) : s.Onward (s.writeReg r w) := by
  cases r with
  | voice v x =>
    simp only [State.writeReg, State.writeVoice]
    split
    next y hy =>
      obtain ⟨-, hstate, -⟩ := writeVoiceReg_keeps hy
      exact State.onward_setVoice (hstate ▸ le_rfl)
    next => exact .of_voices rfl
  | tickDt | convStatus =>
    simp only [State.writeReg]
    split <;> exact .of_voices rfl
  | _ => exact .of_voices rfl

/-- Every instruction takes each voice along the envelope (41_voice.md R219). -/
theorem exec_along {i : Instr} {s t : State} (h : CountInv s) (hexec : exec i s = .next t) : s.Along t := by
  cases i with
  | rd a =>
    simp only [exec, execRd] at hexec
    split at hexec <;> exact Host.Outcome.next.inj hexec ▸ State.Along.of_voices rfl
  | wr a w =>
    simp only [exec, execWr] at hexec
    split at hexec
    next => exact Host.Outcome.next.inj hexec ▸ State.Along.of_voices rfl
    next => exact execCommand_along h hexec
    next => exact Host.Outcome.next.inj hexec ▸ (writeReg_onward ..).along
  | _ => exact exec_command_along rfl h hexec

/-- Every step takes each voice along the envelope (41_voice.md R219). -/
theorem step_along {s t : State} (h : CountInv s) (hstep : step s = .next t) : s.Along t := by
  cases hframes : s.frames with
  | nil =>
    rw [step_of_idle hframes] at hstep
    exact Host.Outcome.next.inj hstep ▸ State.Along.of_voices rfl
  | cons f rest =>
    cases hdec : decodeFrame f with
    | error e =>
      rw [step_of_malformed hframes hdec, State.rejectFrame] at hstep
      obtain rfl := Host.Outcome.next.inj hstep
      split <;> exact State.Along.of_voices rfl
    | ok i =>
      rw [step_of_decoded hframes hdec] at hstep
      have htaken : State.Along { s with frames := rest } t := exec_along ((Change.frames rest).countInv h) hstep
      exact ⟨htaken.voice⟩

/-- Settles O57: a step takes every voice along, and the invariant keeps its state legal on both sides. -/
theorem everyStepFollowsTheEnvelope : Obligations.EveryStepFollowsTheEnvelope := by
  intro s t v h hstep
  obtain ⟨-, hs6, hs7, -⟩ := (Voice.coherent_iff _).1 (h.voice_coherent v)
  obtain ⟨-, ht6, ht7, -⟩ :=
    (Voice.coherent_iff _).1 ((everyStepKeepsTheGroupCounters s t h hstep).voice_coherent v)
  exact (EnvState.follows_iff _ _).2 ⟨⟨hs6, hs7⟩, ⟨ht6, ht7⟩, (step_along h hstep).voice v⟩

end Sys2Proof.Machine
end

section
/-! The voice commands (41_voice.md R201 to R203, R215, R217): NEWVOICE, START, END and UPDATE on a voice in range, and
the code that UPDATE sends. -/

namespace Sys2Proof.Machine

open Sys2Proof.Config

/-! ### Records and counters spelled out -/

/-- The record of VoiceInvariant (60_exceptions.md R372, R373). -/
theorem raise_voiceInvariant (s : State) (i o : Byte) :
    s.raise .voiceInvariant i o = s.recorded 7 0x22#8 i o (labelOf o) := by
  simp [State.raise, State.recorded, State.emit, labelOf, subsystemOf, errorCode, errorMask, errorBit]

/-- The record of InvalidLogicalDevice, an error of the AAL whoever raises it (60_exceptions.md R372, R373). -/
theorem raise_invalidLogicalDevice (s : State) (i o : Byte) :
    s.raise .invalidLogicalDevice i o = s.recorded 1 0x13#8 i o .aal := by
  simp [State.raise, State.recorded, State.emit, subsystemOf, errorCode, errorMask, errorBit]

/-- Counting a voice sets one counter (41_voice.md R202). -/
theorem incGroup_eq_set (s : State) (g : BitVec 4) :
    s.incGroup g = { s with groupCount := s.groupCount.set g.toNat (s.groupCount.getD g.toNat 0#8 + 1#8) } := by
  rw [State.incGroup, modify_eq_set_getD _ _ _ 0#8]

/-- Uncounting a voice sets one counter (41_voice.md R206). -/
theorem decGroup_eq_set (s : State) (g : BitVec 4) :
    s.decGroup g = { s with groupCount := s.groupCount.set g.toNat (s.groupCount.getD g.toNat 0#8 - 1#8) } := by
  rw [State.decGroup, modify_eq_set_getD _ _ _ 0#8]

/-- A voice command in range runs its effect (30_encoding.md R148). -/
theorem withVoice_of_lt {s : State} {v : Byte} (hv : v.toNat < s.numVoices) (op : Byte) (f : State → State) :
    s.withVoice v op f = f s :=
  if_pos hv

/-! ### NEWVOICE, START and END -/

/-- Settles O22: BOUND decides between the binding and the record. -/
theorem newvoiceBindsOnce : Obligations.NewvoiceBindsOnce := by
  intro s v g ch hv hg
  have hexec : exec (.newvoice v g ch) s = .next (s.bindVoice v g ch) := by
    rw [exec, execNewvoice, withVoice_of_lt hv, if_pos hg]
  refine ⟨fun hfree => ?_, fun hbound => ?_⟩
  · rw [hexec, State.bindVoice, hfree]
    rfl
  · rw [hexec, State.bindVoice, hbound, ← show labelOf 0x01#8 = .env from rfl, ← raise_badCommand]
    rfl

/-- START's test: a bound, inactive, unmuted voice with a TOP that is not zero (41_voice.md R202). -/
theorem startRefused_iff (x : Voice) :
    (!x.bound || x.active || feq x.top fZero || x.mute) = true ↔
      ¬(x.bound = true ∧ x.active = false ∧ feq x.top fZero = false ∧ x.mute = false) := by
  rw [← Bool.not_eq_false, Bool.or_eq_false_iff, Bool.or_eq_false_iff, Bool.or_eq_false_iff, Bool.not_eq_false',
    and_assoc, and_assoc]

/-- Settles O23: START's test decides between the activation and no effect. -/
theorem startActivatesOrDoesNothing : Obligations.StartActivatesOrDoesNothing := by
  intro s v hv x
  have hexec : exec (.start v) s = .next (s.startVoice v.toNat) := congrArg _ (withVoice_of_lt hv _ _)
  refine ⟨fun hstart => ?_, fun hrefused => ?_⟩
  · rw [hexec, State.startVoice, if_neg fun h => (startRefused_iff x).1 h hstart, incGroup_eq_set]
    rfl
  · rw [hexec, State.startVoice, if_pos ((startRefused_iff x).2 hrefused)]

/-- Settles O24: ACTIVE decides. -/
theorem endOnlySetsTriggerEnd : Obligations.EndOnlySetsTriggerEnd := by
  intro s v hv
  have hexec : exec (.endNote v) s = .next (s.endVoice v.toNat) := congrArg _ (withVoice_of_lt hv _ _)
  refine ⟨fun hactive => ?_, fun hinactive => ?_⟩
  · rw [hexec, State.endVoice, if_pos hactive]
  · rw [hexec, State.endVoice, hinactive]
    rfl

/-! ### UPDATE -/

section output
variable {s : State} {d : Byte} {k : Kind} (value : Half) (op : Byte)

/-- A handle of the wanted kind on a valid board takes the value (43_aal.md R289). -/
theorem setOut_of_valid (hd : d.toNat < s.numDevices ∧ (s.device d.toNat).kind = k)
    (hvalid : (s.board (s.device d.toNat).board.toNat).valid = true) :
    s.setOut d k value op = s.setBoard (s.device d.toNat).board.toNat
      ((s.board (s.device d.toNat).board.toNat).write (s.device d.toNat).channel.toNat value) := by
  rw [State.setOut, State.translate, if_pos hd]
  exact if_pos hvalid

/-- A handle on an invalid board drops the value (43_aal.md R289). -/
theorem setOut_of_invalid (hd : d.toNat < s.numDevices ∧ (s.device d.toNat).kind = k)
    (hinvalid : (s.board (s.device d.toNat).board.toNat).valid = false) : s.setOut d k value op = s := by
  rw [State.setOut, State.translate, if_pos hd]
  exact if_neg (Bool.eq_false_iff.1 hinvalid)

/-- A handle that is no device of the wanted kind is recorded (20_memory.md R108). -/
theorem setOut_of_bad_handle (hbad : ¬(d.toNat < s.numDevices ∧ (s.device d.toNat).kind = k)) :
    s.setOut d k value op = s.recorded 1 0x13#8 d op .aal := by
  rw [State.setOut, State.translate, if_neg hbad, ← raise_invalidLogicalDevice]

end output

/-- Settles O32: BOUND and DIRTY decide whether a code is sent, and the handle and the board what becomes of it. -/
theorem updateSendsADirtyVoice : Obligations.UpdateSendsADirtyVoice := by
  intro s v hv x m level code sent d bd
  have hexec : exec (.update v) s =
      .next (if x.bound then s.updateVoice v.toNat 0x05#8 else s.raise .badCommand v 0x05#8) :=
    congrArg _ (withVoice_of_lt hv _ _)
  have hsent (hbound : x.bound = true) (hdirty : x.dirty = true) :
      exec (.update v) s = .next (sent.setOut x.channel .ao code 0x05#8) := by
    rw [hexec, if_pos hbound, State.updateVoice, if_pos hdirty]
    rfl
  refine ⟨fun hfree => ?_, fun hbound hclean => ?_, fun hbound hdirty hd hkind hvalid => ?_,
    fun hbound hdirty hd hkind hinvalid => ?_, fun hbound hdirty hbad => ?_⟩
  · rw [hexec, hfree, raise_badCommand]
    rfl
  · rw [hexec, if_pos hbound, State.updateVoice, if_neg (Bool.eq_false_iff.1 hclean)]
  · rw [hsent hbound hdirty, setOut_of_valid (s := sent) _ _ ⟨hd, hkind⟩ hvalid]
    rfl
  · rw [hsent hbound hdirty, setOut_of_invalid (s := sent) _ _ ⟨hd, hkind⟩ hinvalid]
  · rw [hsent hbound hdirty, setOut_of_bad_handle (s := sent) _ _ hbad]

/-! ### The code -/

theorem fInt_f65535 : fInt f65535 = 65535 * 2 ^ 149 := by decide +kernel

/-- Below 65535 the whole part of a level fits the code (41_voice.md R217). -/
theorem toNat_toCode {x : F32} (hpos : fgt x fZero = true) (hlow : fge x f65535 = false)
    (hunits : fUnits x < 65535 * 2 ^ 149) : (toCode x).toNat = fUnits x / 2 ^ 149 := by
  have hcode : toCode x = BitVec.ofNat 16 (fUnits x >>> 149) := by
    rw [toCode, hpos, hlow]
    rfl
  rw [hcode, BitVec.toNat_ofNat, Nat.shiftRight_eq_div_pow]
  exact Nat.mod_eq_of_lt (by omega)

/-- Settles O33: a positive level below 65535 is a whole number of units, and the shift takes its whole part. -/
theorem codeIsTheWholePart : Obligations.CodeIsTheWholePart := by
  intro x hx
  have hzero : fgt x fZero = true ↔ 0 < fInt x := by rw [fgt_iff (fOrdered_of_not_nan hx (by decide)), fInt_fZero]
  have hfull : fge x f65535 = true ↔ 65535 * 2 ^ 149 ≤ fInt x := by
    rw [fge_iff (fOrdered_of_not_nan hx (by decide)), fInt_f65535]
  refine ⟨fun h => ?_, fun h => ?_, fun hpos hlow => ?_⟩
  · rw [toCode, h]
    rfl
  · have hpos : fgt x fZero = true := hzero.2 (lt_of_lt_of_le (by norm_num) (hfull.1 h))
    rw [toCode, hpos, h]
    rfl
  · have hlt : fInt x < 65535 * 2 ^ 149 := not_le.1 (mt hfull.2 (Bool.eq_false_iff.1 hlow))
    have habs := natAbs_fInt x
    have hgt := hzero.1 hpos
    rw [toNat_toCode hpos hlow (by omega)]
    omega

end Sys2Proof.Machine
end

section
/-! PROCESS by the state a voice has entered (41_voice.md R205 to R214): the state step, which carries DIRTY through
unread, and MarkDirty on what it leaves. -/

namespace Sys2Proof.Machine

open Sys2Proof.Config

/-! ### DIRTY -/

/-- A voice with DIRTY as given. -/
def Voice.setDirty (b : Bool) (v : Voice) : Voice := { v with dirty := b }

@[simp] theorem Voice.setDirty_state (b : Bool) (v : Voice) : (v.setDirty b).state = v.state := rfl
@[simp] theorem Voice.setDirty_active (b : Bool) (v : Voice) : (v.setDirty b).active = v.active := rfl

/-- MarkDirty sets DIRTY where the state has changed (41_voice.md R214). -/
theorem Voice.markDirty_of_changed {v : Voice} (level : F32) {old : EnvState} (h : v.state ≠ old) :
    v.markDirty level old = v.setDirty true := by
  simp [Voice.markDirty, Voice.setDirty, h]

/-- MarkDirty keeps a DIRTY that is set (41_voice.md R214). -/
theorem Voice.markDirty_of_dirty (v : Voice) (level : F32) (old : EnvState) :
    (v.setDirty true).markDirty level old = v.setDirty true := by
  simp [Voice.markDirty, Voice.setDirty]

/-- MarkDirty where the state is the old one (41_voice.md R214). -/
theorem Voice.markDirty_of_same_state {v : Voice} (level : F32) {old : EnvState} (h : v.state = old) :
    v.markDirty level old = v.setDirty (v.dirty || decide (v.current ≠ level) || v.modEn) := by
  simp [Voice.markDirty, Voice.setDirty, h]

/-- MarkDirty where neither the state nor the level has changed (41_voice.md R214). -/
theorem Voice.markDirty_of_same {v : Voice} {level : F32} {old : EnvState} (hlevel : v.current = level)
    (h : v.state = old) : v.markDirty level old = v.setDirty (v.dirty || v.modEn) := by
  simp [Voice.markDirty, Voice.setDirty, h, hlevel]

/-! ### The steps of the states -/

section steps
variable {p : Params} {dt : F32} {x : Voice}

/-- ATTACK ramps below TARGET (41_voice.md R209). -/
theorem Voice.attackStep_ramp (h : fge (fadd x.timer dt) x.target = false) :
    x.attackStep dt = { x with
      timer := fadd x.timer dt
      current := rampLevel x.bottom (fadd x.timer dt) x.target x.delta } :=
  if_neg (Bool.eq_false_iff.1 h)

/-- ATTACK without a decay ends in SUSTAIN (41_voice.md R209). -/
theorem Voice.attackStep_sustain (h : fge (fadd x.timer dt) x.target = true) (hno : x.noDecay = true) :
    x.attackStep dt = { x with timer := fadd x.timer dt, current := x.top, state := .sustain } :=
  (if_pos h).trans (if_pos hno)

/-- ATTACK with a decay ends in DECAY (41_voice.md R209). -/
theorem Voice.attackStep_decay (h : fge (fadd x.timer dt) x.target = true) (hno : x.noDecay = false) :
    x.attackStep dt = { x with
      current := x.top
      state := .decay
      timer := x.decayMs
      target := x.decayMs
      delta := fsub x.top x.susCap } :=
  (if_pos h).trans (if_neg (Bool.eq_false_iff.1 hno))

/-- DECAY ramps above the snap threshold (41_voice.md R210). -/
theorem Voice.decayStep_ramp (h : fgt (fsub x.timer dt) p.decaySnapMs = true) :
    x.decayStep p dt = { x with
      timer := fsub x.timer dt
      current := rampLevel x.susCap (fsub x.timer dt) x.target x.delta } :=
  if_pos h

/-- DECAY at the snap threshold ends in SUSTAIN (41_voice.md R210). -/
theorem Voice.decayStep_snap (h : fgt (fsub x.timer dt) p.decaySnapMs = false) :
    x.decayStep p dt = { x with
      timer := fsub x.timer dt
      current := x.susCap
      state := .sustain
      peak := x.peak || fge x.susCap x.top } := by
  rw [Bool.or_comm]
  exact if_neg (Bool.eq_false_iff.1 h)

/-- SUSTAIN corrects a peak (41_voice.md R211). -/
theorem Voice.sustainStep_correct (h : x.peak = true ∧ x.dualUse = false ∧ fne x.current x.top = true) :
    x.sustainStep p = { x with current := x.top, peak := decide (p.peakResnap = .everyTick) } := by
  obtain ⟨hpeak, hdual, hne⟩ := h
  rw [Voice.sustainStep, hpeak, hdual, hne]
  cases p.peakResnap <;> rfl

/-- SUSTAIN holds its level (41_voice.md R211). -/
theorem Voice.sustainStep_stay (h : ¬(x.peak = true ∧ x.dualUse = false ∧ fne x.current x.top = true)) :
    x.sustainStep p = x := by
  refine if_neg fun hcorrect => h ?_
  rwa [Bool.and_eq_true, Bool.and_eq_true, Bool.not_eq_true', and_assoc] at hcorrect

/-- The damper test (41_voice.md R224). -/
theorem Voice.hold_iff :
    x.hold = true ↔ (x.dmode = .normal ∧ x.pedal = true) ∨ (x.dmode = .invert ∧ x.pedal = false) := by
  unfold Voice.hold
  cases x.dmode <;> simp

end steps

theorem Voice.attackStep_setDirty (dt : F32) (b : Bool) (v : Voice) :
    (v.setDirty b).attackStep dt = (v.attackStep dt).setDirty b := by
  unfold Voice.attackStep
  simp only [apply_ite (Voice.setDirty b)]
  rfl

theorem Voice.decayStep_setDirty (p : Params) (dt : F32) (b : Bool) (v : Voice) :
    (v.setDirty b).decayStep p dt = (v.decayStep p dt).setDirty b := by
  unfold Voice.decayStep
  simp only [apply_ite (Voice.setDirty b)]
  rfl

theorem Voice.sustainStep_setDirty (p : Params) (b : Bool) (v : Voice) :
    (v.setDirty b).sustainStep p = (v.sustainStep p).setDirty b := by
  unfold Voice.sustainStep
  simp only [apply_ite (Voice.setDirty b)]
  rfl

/-! ### The state step -/

section step
variable {s : State} {v : ℕ} {x : Voice} (dt : F32) (op : Byte) (hv : v < s.voices.length)
include hv

/-- ATTACK takes its own step (41_voice.md R209). -/
theorem stateStep_attack (h : x.state = .attack) :
    (s.setVoice v x).stateStep v dt op = s.setVoice v (x.attackStep dt) := by
  simp only [State.stateStep, s.setVoice_voice_self v x hv, h, State.setVoice_setVoice]

/-- DECAY takes its own step (41_voice.md R210). -/
theorem stateStep_decay (h : x.state = .decay) :
    (s.setVoice v x).stateStep v dt op = s.setVoice v (x.decayStep s.params dt) := by
  simp only [State.stateStep, s.setVoice_voice_self v x hv, h, State.setVoice_setVoice, State.setVoice_params]

/-- SUSTAIN takes its own step (41_voice.md R211). -/
theorem stateStep_sustain (h : x.state = .sustain) :
    (s.setVoice v x).stateStep v dt op = s.setVoice v (x.sustainStep s.params) := by
  simp only [State.stateStep, s.setVoice_voice_self v x hv, h, State.setVoice_setVoice, State.setVoice_params]

/-- Clear of a voice just written (41_voice.md R206). -/
theorem setVoice_clearVoice (h : x.active = true) :
    (s.setVoice v x).clearVoice v = (s.decGroup x.group).setVoice v x.cleared :=
  (clearVoice_of_active (s.setVoice_voice_self v x hv) h).trans ((s.decGroup x.group).setVoice_setVoice v x _)

/-- RELEASE ramps, holds or clears (41_voice.md R212). -/
theorem stateStep_release (h : x.state = .release) :
    (s.setVoice v x).stateStep v dt op =
      if fgt (fsub x.timer dt) s.params.releaseSnapMs then
        s.setVoice v { x with
          timer := fsub x.timer dt
          current := rampLevel x.bottom (fsub x.timer dt) x.target x.delta }
      else if x.hold then s.setVoice v { x with timer := fsub x.timer dt }
      else (s.setVoice v { x with timer := fsub x.timer dt }).clearVoice v := by
  have hrelease : (s.setVoice v x).stateStep v dt op = (s.setVoice v x).releaseStep v dt := by
    simp only [State.stateStep, s.setVoice_voice_self v x hv, h]
  rw [hrelease, State.releaseStep, s.setVoice_voice_self v x hv]
  simp only [State.setVoice_setVoice, State.setVoice_params]
  rfl

/-- RELEASE above the snap threshold ramps (41_voice.md R212). -/
theorem stateStep_release_ramp (h : x.state = .release) (hramp : fgt (fsub x.timer dt) s.params.releaseSnapMs = true) :
    (s.setVoice v x).stateStep v dt op = s.setVoice v
      { x with
        timer := fsub x.timer dt
        current := rampLevel x.bottom (fsub x.timer dt) x.target x.delta } := by
  rw [stateStep_release dt op hv h, if_pos hramp]

/-- RELEASE at the snap threshold is held by the damper (41_voice.md R212, R224). -/
theorem stateStep_release_hold (h : x.state = .release) (hsnap : fgt (fsub x.timer dt) s.params.releaseSnapMs = false)
    (hhold : x.hold = true) :
    (s.setVoice v x).stateStep v dt op = s.setVoice v { x with timer := fsub x.timer dt } := by
  rw [stateStep_release dt op hv h, if_neg (Bool.eq_false_iff.1 hsnap), if_pos hhold]

/-- RELEASE at the snap threshold and not held clears the voice (41_voice.md R206, R212). -/
theorem stateStep_release_clear (h : x.state = .release) (hsnap : fgt (fsub x.timer dt) s.params.releaseSnapMs = false)
    (hhold : x.hold = false) (hactive : x.active = true) :
    (s.setVoice v x).stateStep v dt op =
      (s.decGroup x.group).setVoice v { x with timer := fsub x.timer dt }.cleared := by
  rw [stateStep_release dt op hv h, if_neg (Bool.eq_false_iff.1 hsnap), if_neg (Bool.eq_false_iff.1 hhold)]
  exact setVoice_clearVoice hv hactive

/-- The states that no case of the state step knows (41_voice.md R205). -/
theorem stateStep_impossible (h : x.state = .idle ∨ x.state = .start ∨ x.state = .illegal6 ∨ x.state = .illegal7)
    (hactive : x.active = true) :
    (s.setVoice v x).stateStep v dt op =
      ((s.raise .voiceInvariant (BitVec.ofNat 8 v) op).decGroup x.group).setVoice v x.cleared := by
  have hviolation : (s.setVoice v x).stateStep v dt op = (s.setVoice v x).invariantViolation v op := by
    rcases h with h | h | h | h <;> simp only [State.stateStep, s.setVoice_voice_self v x hv, h]
  rw [hviolation]
  exact setVoice_clearVoice (s := s.raise .voiceInvariant (BitVec.ofNat 8 v) op) hv hactive

/-- The state step leads onward and carries DIRTY through unread: MarkDirty alone decides it (41_voice.md R214). -/
theorem stateStep_carries_dirty (hactive : x.active = true) :
    ∃ (u : State) (y : Voice), u.voices = s.voices ∧ x.state.stage ≤ y.state.stage ∧
      ∀ b, (s.setVoice v (x.setDirty b)).stateStep v dt op = u.setVoice v (y.setDirty b) := by
  cases hst : x.state
  case attack =>
    refine ⟨s, x.attackStep dt, rfl, hst ▸ (Voice.Advances.attack (p := s.params) hst).stage_le, fun b => ?_⟩
    rw [stateStep_attack (x := x.setDirty b) dt op hv hst, Voice.attackStep_setDirty]
  case decay =>
    refine ⟨s, x.decayStep s.params dt, rfl, hst ▸ (Voice.Advances.decay hst).stage_le, fun b => ?_⟩
    rw [stateStep_decay (x := x.setDirty b) dt op hv hst, Voice.decayStep_setDirty]
  case sustain =>
    refine ⟨s, x.sustainStep s.params, rfl, hst ▸ (Voice.Advances.sustain (dt := dt) hst).stage_le, fun b => ?_⟩
    rw [stateStep_sustain (x := x.setDirty b) dt op hv hst, Voice.sustainStep_setDirty]
  case release =>
    cases hramp : fgt (fsub x.timer dt) s.params.releaseSnapMs
    · cases hhold : x.hold
      · exact ⟨s.decGroup x.group, ({ x with timer := fsub x.timer dt } : Voice).cleared, rfl,
          EnvState.stage_le_idle _, fun b => stateStep_release_clear (x := x.setDirty b) dt op hv hst hramp hhold hactive⟩
      · exact ⟨s, { x with timer := fsub x.timer dt }, rfl, hst.symm ▸ le_rfl,
          fun b => stateStep_release_hold (x := x.setDirty b) dt op hv hst hramp hhold⟩
    · exact ⟨s, { x with
          timer := fsub x.timer dt
          current := rampLevel x.bottom (fsub x.timer dt) x.target x.delta }, rfl, hst.symm ▸ le_rfl,
        fun b => stateStep_release_ramp (x := x.setDirty b) dt op hv hst hramp⟩
  all_goals
    exact ⟨(s.raise .voiceInvariant (BitVec.ofNat 8 v) op).decGroup x.group, x.cleared, rfl,
      EnvState.stage_le_idle _, fun b => stateStep_impossible (x := x.setDirty b) dt op hv (by simp [hst]) hactive⟩

end step

/-! ### START's entry and the trigger end -/

/-- A voice past START with no trigger end enters as it is (41_voice.md R205). -/
theorem Voice.enter_of_settled (p : Params) {x : Voice} (hstart : x.state ≠ .start) (htrig : x.trigEnd = false) :
    x.enter p = x := by
  rw [Voice.enter, if_neg hstart, htrig]
  rfl

/-- A voice past START with TRIGEND set enters by the trigger end (41_voice.md R208). -/
theorem Voice.enter_of_trigEnd (p : Params) {x : Voice} (hstart : x.state ≠ .start) (htrig : x.trigEnd = true) :
    x.enter p = x.triggerEnd := by
  rw [Voice.enter, if_neg hstart]
  exact if_pos htrig

/-- A voice in START enters as START's entry actions leave it (41_voice.md R207). -/
theorem Voice.enter_startEntry (p : Params) {x : Voice} (hstart : x.state = .start) :
    (x.startEntry p).enter p = x.enter p := by
  rw [Voice.enter, Voice.enter, if_pos hstart]
  rfl

/-- The trigger end leads to RELEASE (41_voice.md R208). -/
theorem Voice.triggerEnd_state (x : Voice) : x.triggerEnd.state = .release := by
  unfold Voice.triggerEnd
  split
  · assumption
  · rfl

/-- The trigger end drops TRIGEND (41_voice.md R208). -/
theorem Voice.triggerEnd_trigEnd (x : Voice) : x.triggerEnd.trigEnd = false := by
  unfold Voice.triggerEnd
  split <;> rfl

/-- A voice that the trigger end has moved enters as it is. -/
theorem Voice.enter_triggerEnd (p : Params) (x : Voice) : x.triggerEnd.enter p = x.triggerEnd :=
  Voice.enter_of_settled p (x.triggerEnd_state.trans_ne nofun) x.triggerEnd_trigEnd

theorem Voice.triggerEnd_setDirty (b : Bool) (x : Voice) : (x.setDirty b).triggerEnd = x.triggerEnd.setDirty b := by
  unfold Voice.triggerEnd
  simp only [apply_ite (Voice.setDirty b)]
  rfl

theorem Voice.enter_setDirty (p : Params) (b : Bool) (x : Voice) : (x.setDirty b).enter p = (x.enter p).setDirty b := by
  unfold Voice.enter
  simp only [apply_ite (Voice.setDirty b), ← Voice.triggerEnd_setDirty]
  by_cases h : x.state = .start
  · simp only [Voice.setDirty_state, h, if_true]
    rfl
  · simp only [Voice.setDirty_state, h, if_false]
    rfl

/-- PROCESS of a voice in range (41_voice.md R204). -/
theorem exec_process {s : State} {v : Byte} (hv : v.toNat < s.numVoices) :
    exec (.process v) s = .next (s.processVoice v.toNat s.tickDt 0x04#8) :=
  congrArg _ (withVoice_of_lt hv _ _)

section entered
variable {s : State} {v : ℕ} {x : Voice} (dt : F32) (op : Byte) (hactive : (s.voice v).active = true)
  (hx : x.active = true)
include hactive hx

/-- Process of two voices that enter alike, from the same state, is the same. -/
theorem processVoice_of_enter_eq (hcurrent : x.current = (s.voice v).current) (hstate : x.state = (s.voice v).state)
    (henter : x.enter s.params = (s.voice v).enter s.params) :
    (s.setVoice v x).processVoice v dt op = s.processVoice v dt op := by
  have hself := s.setVoice_voice_self v x (State.lt_of_active hactive)
  rw [State.processVoice, State.processVoice, hself, if_pos hx, if_pos hactive]
  dsimp only
  rw [State.setVoice_params, henter, State.setVoice_setVoice, hcurrent, hstate]

/-- Process of a voice that enters a later state is that of the voice already there and DIRTY: the state changes, so
MarkDirty sets DIRTY (41_voice.md R214). -/
theorem processVoice_of_enter_dirty (henter : x.enter s.params = ((s.voice v).enter s.params).setDirty true)
    (hlater : (s.voice v).state.stage < ((s.voice v).enter s.params).state.stage) :
    (s.setVoice v x).processVoice v dt op = s.processVoice v dt op := by
  have hv := State.lt_of_active hactive
  have hself := s.setVoice_voice_self v x hv
  obtain ⟨u, y, hu, honward, hstep⟩ :=
    stateStep_carries_dirty dt op hv ((Voice.enter_active s.params (s.voice v)).trans hactive)
  have hchanged : y.state ≠ (s.voice v).state := fun h => (hlater.trans_le honward).ne (congrArg _ h.symm)
  have hthere : ((s.setVoice v x).setVoice v (((s.setVoice v x).voice v).enter s.params)).stateStep v dt op =
      u.setVoice v (y.setDirty true) := by
    rw [hself, State.setVoice_setVoice, henter, hstep]
  rw [processVoice_of_stateStep hactive (hstep ((s.voice v).enter s.params).dirty) (hu ▸ hv),
    processVoice_of_stateStep (hself.symm ▸ hx) hthere (hu ▸ hv), Voice.markDirty_of_dirty,
    Voice.markDirty_of_changed (v := y.setDirty ((s.voice v).enter s.params).dirty) _ hchanged]
  rfl

end entered

/-- PROCESS of a voice is that of another one where their Process is the same. -/
theorem exec_process_congr {s : State} {v : Byte} {x : Voice} (hv : v.toNat < s.numVoices)
    (h : (s.setVoice v.toNat x).processVoice v.toNat s.tickDt 0x04#8 = s.processVoice v.toNat s.tickDt 0x04#8) :
    exec (.process v) s = exec (.process v) (s.setVoice v.toNat x) := by
  have hv' : v.toNat < (s.setVoice v.toNat x).numVoices := by rwa [State.setVoice_numVoices]
  rw [exec_process hv, exec_process hv', ← h, State.setVoice_tickDt]

/-- Settles O25: START's entry leads on to ATTACK, or to RELEASE with TRIGEND set. -/
theorem processEntersAttackInTheSameCall : Obligations.ProcessEntersAttackInTheSameCall := by
  intro s v hv x
  refine ⟨fun hinactive hidle => ?_, fun hactive hstart => exec_process_congr hv ?_⟩
  · rw [exec_process hv, State.processVoice, if_neg (Bool.eq_false_iff.1 hinactive), if_pos hidle]
  · have henter : ((x.startEntry s.params).setDirty true).enter s.params = (x.enter s.params).setDirty true := by
      rw [Voice.enter_setDirty, Voice.enter_startEntry _ hstart]
    have hlater : x.state.stage < (x.enter s.params).state.stage := by
      have hattack := Voice.stage_le_enter s.params (v := x.startEntry s.params) nofun
      rw [Voice.enter_startEntry _ hstart] at hattack
      exact hstart ▸ hattack
    exact processVoice_of_enter_dirty _ _ hactive hactive henter hlater

/-- Settles O26: the trigger end leads on to RELEASE from the states before it, and in RELEASE only drops TRIGEND. -/
theorem processTakesTriggerEnd : Obligations.ProcessTakesTriggerEnd := by
  intro s v hv x hactive htrig
  refine ⟨fun hstate => exec_process_congr hv ?_, fun hrelease => exec_process_congr hv ?_⟩
  · have hearlier : x.state ≠ .start ∧ x.state ≠ .release ∧ x.state.stage < EnvState.release.stage := by
      rcases hstate with h | h | h <;> rw [h] <;> decide
    obtain ⟨hstart, hrelease, hlater⟩ := hearlier
    have hx : (x.triggerEnd.setDirty true).enter s.params = (x.enter s.params).setDirty true := by
      rw [Voice.enter_setDirty, Voice.enter_triggerEnd, Voice.enter_of_trigEnd _ hstart htrig]
    rw [Voice.triggerEnd, if_neg hrelease] at hx
    refine processVoice_of_enter_dirty _ _ hactive hactive hx ?_
    rwa [Voice.enter_of_trigEnd _ hstart htrig, Voice.triggerEnd_state]
  · have hstart : x.state ≠ .start := hrelease.trans_ne nofun
    have hx : x.triggerEnd.enter s.params = x.enter s.params := by
      rw [Voice.enter_triggerEnd, Voice.enter_of_trigEnd _ hstart htrig]
    rw [Voice.triggerEnd, if_pos hrelease] at hx
    exact processVoice_of_enter_eq _ _ hactive hactive rfl rfl hx

/-! ### The state step of a settled voice -/

section settled
variable {s u : State} {v : Byte} {y : Voice} (hv : v.toNat < s.numVoices)
  (hactive : (s.voice v.toNat).active = true) (hstart : (s.voice v.toNat).state ≠ .start)
  (htrig : (s.voice v.toNat).trigEnd = false)
  (hstep : (s.setVoice v.toNat (s.voice v.toNat)).stateStep v.toNat s.tickDt 0x04#8 = u.setVoice v.toNat y)
  (hu : u.voices = s.voices)
include hv hactive hstart htrig hstep hu

/-- PROCESS of a voice past START with no trigger end is its state step and MarkDirty (41_voice.md R205). -/
theorem exec_process_of_stateStep :
    exec (.process v) s =
      .next (u.setVoice v.toNat (y.markDirty (s.voice v.toNat).current (s.voice v.toNat).state)) := by
  have hlen : v.toNat < u.voices.length := hu.symm ▸ hv
  rw [exec_process hv, processVoice_of_stateStep hactive ?_ hlen]
  rwa [Voice.enter_of_settled _ hstart htrig]

/-- PROCESS that stays in its state sets DIRTY by the level and MODEN (41_voice.md R214). -/
theorem exec_process_of_stay (hy : y.state = (s.voice v.toNat).state) :
    exec (.process v) s = .next (u.setVoice v.toNat
      (y.setDirty (y.dirty || decide (y.current ≠ (s.voice v.toNat).current) || y.modEn))) := by
  rw [exec_process_of_stateStep hv hactive hstart htrig hstep hu, Voice.markDirty_of_same_state _ hy]

/-- PROCESS that stays in its state and at its level sets DIRTY by MODEN (41_voice.md R214). -/
theorem exec_process_of_same (hy : y.state = (s.voice v.toNat).state) (hlevel : y.current = (s.voice v.toNat).current) :
    exec (.process v) s = .next (u.setVoice v.toNat (y.setDirty (y.dirty || y.modEn))) := by
  rw [exec_process_of_stateStep hv hactive hstart htrig hstep hu, Voice.markDirty_of_same hlevel hy]

/-- PROCESS that leaves its state sets DIRTY (41_voice.md R214). -/
theorem exec_process_of_move (hy : (s.voice v.toNat).state ≠ y.state) :
    exec (.process v) s = .next (u.setVoice v.toNat (y.setDirty true)) := by
  rw [exec_process_of_stateStep hv hactive hstart htrig hstep hu, Voice.markDirty_of_changed _ hy.symm]

end settled

/-- Settles O27: ATTACK ramps, or moves to SUSTAIN or DECAY. -/
theorem processInAttack : Obligations.ProcessInAttack := by
  intro s v hv x timer level hactive hstate htrig
  have hstart : x.state ≠ .start := hstate.trans_ne nofun
  have hstep := stateStep_attack (x := x) s.tickDt 0x04#8 hv hstate
  refine ⟨fun hramp => ?_, fun hdone hno => ?_, fun hdone hno => ?_⟩
  · rw [Voice.attackStep_ramp hramp] at hstep
    exact exec_process_of_stay hv hactive hstart htrig hstep rfl rfl
  · rw [Voice.attackStep_sustain hdone hno] at hstep
    exact exec_process_of_move hv hactive hstart htrig hstep rfl (hstate.trans_ne nofun)
  · rw [Voice.attackStep_decay hdone hno] at hstep
    exact exec_process_of_move hv hactive hstart htrig hstep rfl (hstate.trans_ne nofun)

/-- Settles O28: DECAY ramps, or snaps to SUSCAP and moves to SUSTAIN. -/
theorem processInDecay : Obligations.ProcessInDecay := by
  intro s v hv x timer level hactive hstate htrig
  have hstart : x.state ≠ .start := hstate.trans_ne nofun
  have hstep := stateStep_decay (x := x) s.tickDt 0x04#8 hv hstate
  refine ⟨fun hramp => ?_, fun hsnap => ?_⟩
  · rw [Voice.decayStep_ramp hramp] at hstep
    exact exec_process_of_stay hv hactive hstart htrig hstep rfl rfl
  · rw [Voice.decayStep_snap hsnap] at hstep
    exact exec_process_of_move hv hactive hstart htrig hstep rfl (hstate.trans_ne nofun)

/-- Settles O29: SUSTAIN corrects the peak or stays. -/
theorem processInSustain : Obligations.ProcessInSustain := by
  intro s v hv x hactive hstate htrig
  have hstart : x.state ≠ .start := hstate.trans_ne nofun
  have hstep := stateStep_sustain (x := x) s.tickDt 0x04#8 hv hstate
  refine ⟨fun hpeak => ?_, fun hpeak => ?_⟩
  · rw [Voice.sustainStep_correct hpeak] at hstep
    exact exec_process_of_stay hv hactive hstart htrig hstep rfl rfl
  · rw [Voice.sustainStep_stay hpeak] at hstep
    exact exec_process_of_same hv hactive hstart htrig hstep rfl rfl rfl

/-- Settles O30: RELEASE ramps, is held, or clears the voice. -/
theorem processInRelease : Obligations.ProcessInRelease := by
  intro s v hv x timer level held hactive hstate htrig
  have hstart : x.state ≠ .start := hstate.trans_ne nofun
  refine ⟨fun hramp => ?_, fun hsnap hheld => ?_, fun hsnap hheld => ?_⟩
  · have hstep := stateStep_release_ramp (x := x) s.tickDt 0x04#8 hv hstate hramp
    exact exec_process_of_stay hv hactive hstart htrig hstep rfl rfl
  · have hstep := stateStep_release_hold (x := x) s.tickDt 0x04#8 hv hstate hsnap (Voice.hold_iff.2 hheld)
    exact exec_process_of_same hv hactive hstart htrig hstep rfl rfl rfl
  · have hfree : x.hold = false := Bool.eq_false_iff.2 (mt Voice.hold_iff.1 hheld)
    have hstep := stateStep_release_clear (x := x) s.tickDt 0x04#8 hv hstate hsnap hfree hactive
    rw [decGroup_eq_set] at hstep
    exact exec_process_of_move hv hactive hstart htrig hstep rfl (hstate.trans_ne nofun)

/-- Settles O31: the state step records and clears an active voice, and Process itself an inactive one. -/
theorem processForcesAnImpossibleVoiceClear : Obligations.ProcessForcesAnImpossibleVoiceClear := by
  intro s v hv x cleared err
  have hraise : s.raise .voiceInvariant (BitVec.ofNat 8 v.toNat) 0x04#8 = err := by
    rw [BitVec.ofNat_toNat, BitVec.setWidth_eq, raise_voiceInvariant]
    rfl
  have hstep (h : x.state = .idle ∨ x.state = .start ∨ x.state = .illegal6 ∨ x.state = .illegal7)
      (hactive : x.active = true) := stateStep_impossible (x := x) s.tickDt 0x04#8 hv h hactive
  rw [hraise, decGroup_eq_set] at hstep
  refine ⟨fun hactive htrig hstate => ?_, fun hactive htrig hidle => ?_, fun hinactive hnotIdle => ?_⟩
  · have hillegal : x.state ≠ .start ∧ x.state ≠ .idle := by
      rcases hstate with h | h <;> rw [h] <;> decide
    obtain ⟨hstart, hidle⟩ := hillegal
    exact exec_process_of_move hv hactive hstart htrig (hstep (.inr (.inr hstate)) hactive) rfl hidle
  · exact exec_process_of_same hv hactive (hidle.trans_ne nofun) htrig (hstep (.inl hidle) hactive) rfl hidle.symm rfl
  · have hinactive' : ¬(err.voice v.toNat).active = true := Bool.eq_false_iff.1 hinactive
    rw [exec_process hv, State.processVoice, if_neg (Bool.eq_false_iff.1 hinactive), if_neg hnotIdle,
      State.invariantViolation, hraise, State.clearVoice, if_neg hinactive']
    rfl

end Sys2Proof.Machine
end

section
/-! What the opcode of a running command can change (60_exceptions.md R372): LAST_ERR.OPC alone. The label of the Log
event tells a command of the voices from one of the AAL, no more, so what two commands share (Process and Update in
PROCESS, UPDATE and TICK, the flush in FLUSH and TICK) leaves states that differ in LAST_ERR.OPC at most. -/

namespace Sys2Proof.Machine

open Sys2Proof.Config

/-! ### States that differ in LAST_ERR.OPC at most -/

/-- s with another LAST_ERR.OPC. -/
def State.withOpc (op : Byte) (s : State) : State := { s with lastErr := { s.lastErr with opc := op } }

/-- t is s up to LAST_ERR.OPC. -/
def SameButOpc (s t : State) : Prop := ∃ op, t = s.withOpc op

/-- Two operations answer alike: the same value, and states that are the same up to LAST_ERR.OPC. -/
def Alike {α : Type} (r q : α × State) : Prop := q.1 = r.1 ∧ SameButOpc r.2 q.2

theorem SameButOpc.refl (s : State) : SameButOpc s s := ⟨s.lastErr.opc, rfl⟩

/-- The OPC of s put back into t gives s. -/
theorem SameButOpc.eq {s t : State} (h : SameButOpc s t) :
    s = { t with lastErr := { t.lastErr with opc := s.lastErr.opc } } := by
  obtain ⟨op, rfl⟩ := h
  rfl

section sameButOpc
variable {s t : State} (h : SameButOpc s t)
include h

theorem SameButOpc.tickDt : t.tickDt = s.tickDt := by rw [h.eq]
theorem SameButOpc.params : t.params = s.params := by rw [h.eq]
theorem SameButOpc.freeIndex : t.freeIndex = s.freeIndex := by rw [h.eq]
theorem SameButOpc.numBoards : t.numBoards = s.numBoards := by rw [h.eq]; rfl
theorem SameButOpc.voice (v : ℕ) : t.voice v = s.voice v := by rw [h.eq]; rfl
theorem SameButOpc.board (b : ℕ) : t.board b = s.board b := by rw [h.eq]; rfl

/-- An operation that does not read LAST_ERR.OPC keeps states the same up to it. -/
theorem SameButOpc.map {f : State → State} (hf : ∀ op, f (s.withOpc op) = (f s).withOpc op) :
    SameButOpc (f s) (f t) := by
  obtain ⟨op, rfl⟩ := h
  exact ⟨op, hf op⟩

theorem SameButOpc.setVoice (v : ℕ) (x : Voice) : SameButOpc (s.setVoice v x) (t.setVoice v x) := h.map fun _ => rfl

theorem SameButOpc.setBoard (b : ℕ) (x : Board) : SameButOpc (s.setBoard b x) (t.setBoard b x) := h.map fun _ => rfl

theorem SameButOpc.decGroup (g : BitVec 4) : SameButOpc (s.decGroup g) (t.decGroup g) := h.map fun _ => rfl

theorem SameButOpc.emit (e : Event) : SameButOpc (s.emit e) (t.emit e) := h.map fun _ => rfl

/-- An error recorded under either opcode, with the same label (60_exceptions.md R372). -/
theorem SameButOpc.recorded (k : ℕ) (code i op op' : Byte) (label : Subsystem) :
    SameButOpc (s.recorded k code i op label) (t.recorded k code i op' label) := by
  obtain ⟨_, rfl⟩ := h
  exact ⟨op', rfl⟩

end sameButOpc

/-! ### The bus operations -/

section bus
variable {s t : State} (h : SameButOpc s t)
include h

theorem askBus_alike : Alike s.askBus t.askBus := by
  obtain ⟨op, rfl⟩ := h
  cases hbus : s.busAnswers with
  | nil => rw [askBus_nil hbus, askBus_nil (s := s.withOpc op) hbus]; exact ⟨rfl, op, rfl⟩
  | cons a rest => rw [askBus_cons hbus, askBus_cons (s := s.withOpc op) hbus]; exact ⟨rfl, op, rfl⟩

/-- A failed transaction is an error of the AAL whoever runs it (44_bus.md R356). -/
theorem recordTxn_sameButOpc (kind : TxnKind) (a : BusAddr) (out : List Byte) (n : ℕ) (st : BusStatus)
    (bytesIn : List Byte) (i op op' : Byte) :
    SameButOpc (s.recordTxn kind a out n st bytesIn i op) (t.recordTxn kind a out n st bytesIn i op') := by
  unfold State.recordTxn
  dsimp only
  split
  · exact h.emit _
  next hfail =>
    rw [raise_busTransaction _ hfail, raise_busTransaction _ hfail]
    exact (h.emit _).recorded ..

theorem busWrite_alike (a : BusAddr) (bytes : List Byte) (i op op' : Byte) :
    Alike (s.busWrite a bytes i op) (t.busWrite a bytes i op') := by
  obtain ⟨hanswer, hrest⟩ := askBus_alike h
  refine ⟨congrArg BusAnswer.status hanswer, ?_⟩
  rw [State.busWrite, State.busWrite, hanswer]
  exact recordTxn_sameButOpc hrest ..

theorem segBegin_alike (bd : Board) (i op op' : Byte) : Alike (s.segBegin bd i op) (t.segBegin bd i op') := by
  unfold State.segBegin
  split
  · exact ⟨rfl, h⟩
  · rw [h.params]
    exact busWrite_alike h ..

theorem segEnd_sameButOpc (bd : Board) (i op op' : Byte) : SameButOpc (s.segEnd bd i op) (t.segEnd bd i op') := by
  unfold State.segEnd
  split
  · exact h
  · rw [h.params]
    exact (busWrite_alike h ..).2

theorem bracketed_alike (bd : Board) (i op op' : Byte) {x y : State → BusStatus × State}
    (hxy : ∀ {u w : State}, SameButOpc u w → Alike (x u) (y w)) :
    Alike (s.bracketed bd i op x) (t.bracketed bd i op' y) := by
  obtain ⟨hstatus, hselected⟩ := segBegin_alike h bd i op op'
  unfold State.bracketed
  dsimp only
  rw [hstatus]
  split
  · obtain ⟨hdone, hrest⟩ := hxy hselected
    exact ⟨hdone, segEnd_sameButOpc hrest ..⟩
  · exact ⟨hstatus, segEnd_sameButOpc hselected ..⟩

theorem boardWrite_alike (b : ℕ) (bytes : List Byte) (op op' : Byte) :
    Alike (s.boardWrite b bytes op) (t.boardWrite b bytes op') := by
  rw [State.boardWrite, State.boardWrite, h.board]
  exact bracketed_alike h _ _ _ _ fun hu => busWrite_alike hu ..

theorem flushBoard_sameButOpc (op op' : Byte) (b : ℕ) : SameButOpc (s.flushBoard op b) (t.flushBoard op' b) := by
  unfold State.flushBoard
  dsimp only
  rw [h.board, h.params, h.freeIndex]
  split
  · obtain ⟨-, hsent⟩ := boardWrite_alike h b (flushFrame s.params s.freeIndex (s.board b)) op op'
    rw [hsent.board]
    exact hsent.setBoard ..
  · exact h

theorem flushAll_sameButOpc (op op' : Byte) : SameButOpc (s.flushAll op) (t.flushAll op') := by
  rw [State.flushAll, State.flushAll, h.numBoards]
  exact List.foldl_rel h fun b _ _ _ hu => flushBoard_sameButOpc hu op op' b

end bus

/-! ### Process and Update -/

section voice
variable {s t : State} (h : SameButOpc s t)
include h

theorem clearVoice_sameButOpc (v : ℕ) : SameButOpc (s.clearVoice v) (t.clearVoice v) := by
  unfold State.clearVoice
  dsimp only
  rw [h.voice]
  split
  · exact (h.decGroup _).setVoice ..
  · exact h.setVoice ..

/-- InvariantViolation under two opcodes of the same label (41_voice.md R213). -/
theorem invariantViolation_sameButOpc (v : ℕ) {op op' : Byte} (hlabel : labelOf op' = labelOf op) :
    SameButOpc (s.invariantViolation v op) (t.invariantViolation v op') := by
  rw [State.invariantViolation, State.invariantViolation, raise_voiceInvariant, raise_voiceInvariant, hlabel]
  exact clearVoice_sameButOpc (h.recorded ..) v

theorem releaseStep_sameButOpc (v : ℕ) (dt : F32) : SameButOpc (s.releaseStep v dt) (t.releaseStep v dt) := by
  unfold State.releaseStep
  dsimp only
  rw [h.voice, h.params]
  split
  · exact h.setVoice ..
  · split
    · exact h.setVoice ..
    · exact clearVoice_sameButOpc (h.setVoice ..) v

theorem stateStep_sameButOpc (v : ℕ) (dt : F32) {op op' : Byte} (hlabel : labelOf op' = labelOf op) :
    SameButOpc (s.stateStep v dt op) (t.stateStep v dt op') := by
  unfold State.stateStep
  rw [h.voice, h.params]
  cases (s.voice v).state
  case attack => exact h.setVoice ..
  case decay => exact h.setVoice ..
  case sustain => exact h.setVoice ..
  case release => exact releaseStep_sameButOpc h v dt
  all_goals exact invariantViolation_sameButOpc h v hlabel

/-- Process under two opcodes of the same label (41_voice.md R205). -/
theorem processVoice_sameButOpc (v : ℕ) (dt : F32) {op op' : Byte} (hlabel : labelOf op' = labelOf op) :
    SameButOpc (s.processVoice v dt op) (t.processVoice v dt op') := by
  unfold State.processVoice
  dsimp only
  rw [h.voice, h.params]
  split
  · have hstep := stateStep_sameButOpc (h.setVoice v ((s.voice v).enter s.params)) v dt hlabel
    rw [hstep.voice]
    exact hstep.setVoice ..
  · split
    · exact h
    · exact invariantViolation_sameButOpc h v hlabel

/-- A bad handle is an error of the AAL whoever meets it (20_memory.md R108). -/
theorem setOut_sameButOpc (d : Byte) (k : Kind) (value : Half) (op op' : Byte) :
    SameButOpc (s.setOut d k value op) (t.setOut d k value op') := by
  obtain ⟨o, rfl⟩ := h
  rcases setOut_cases s d k value op with ⟨hd, hk, hvalid, hout⟩ | ⟨hd, hk, hvalid, hout⟩ | ⟨hbad, hout⟩
  · rw [hout, setOut_of_valid (s := s.withOpc o) value op' ⟨hd, hk⟩ hvalid]
    exact ⟨o, rfl⟩
  · rw [hout, setOut_of_invalid (s := s.withOpc o) value op' ⟨hd, hk⟩ hvalid]
    exact ⟨o, rfl⟩
  · rw [hout, setOut_of_bad_handle (s := s.withOpc o) value op' hbad, raise_invalidLogicalDevice]
    exact ⟨op', rfl⟩

/-- The code of an Update does not depend on LAST_ERR (41_voice.md R215). -/
theorem SameButOpc.outputCode (x : Voice) : outputCode t x = outputCode s x := by
  obtain ⟨op, rfl⟩ := h
  rfl

theorem updateVoice_sameButOpc (v : ℕ) (op op' : Byte) :
    SameButOpc (s.updateVoice v op) (t.updateVoice v op') := by
  unfold State.updateVoice
  dsimp only
  rw [h.voice, h.outputCode]
  split
  · exact setOut_sameButOpc (h.setVoice ..) ..
  · exact h

end voice

end Sys2Proof.Machine
end

section
/-! TICK (42_driver.md R260 to R266): the turns of the voices touch one voice each, so a voice meets its turn as the
tick began it, an inactive one is passed over, and the commands of a tick by hand meet the same voices. -/

namespace Sys2Proof.Machine

open Sys2Proof.Config

/-! ### The turns -/

/-- The turn of an active voice (42_driver.md R262). -/
theorem tickVoice_of_active {s : State} {v : ℕ} (dt : F32) (op : Byte) (h : (s.voice v).active = true) :
    s.tickVoice dt op v = (s.processVoice v dt op).updateVoice v op :=
  if_pos h

/-- An inactive voice has no turn (42_driver.md R262). -/
theorem tickVoice_of_inactive {s : State} {v : ℕ} (dt : F32) (op : Byte) (h : (s.voice v).active = false) :
    s.tickVoice dt op v = s :=
  if_neg (Bool.eq_false_iff.1 h)

/-- A voice's turn leaves every other voice (60_exceptions.md R382). -/
theorem tickVoice_voice_ne (s : State) {v w : ℕ} (dt : F32) (op : Byte) (h : v ≠ w) :
    (s.tickVoice dt op v).voice w = s.voice w := by
  unfold State.tickVoice
  split
  · rw [updateVoice_voice_ne _ _ h, processVoice_voice_ne _ _ _ h]
  · rfl

/-- No voice's turn changes an inactive voice. -/
theorem tickVoice_voice_of_inactive {s : State} {w : ℕ} (v : ℕ) (dt : F32) (op : Byte)
    (h : (s.voice w).active = false) : (s.tickVoice dt op v).voice w = s.voice w := by
  by_cases hvw : v = w
  · rw [hvw, tickVoice_of_inactive dt op h]
  · exact tickVoice_voice_ne s dt op hvw

/-- All the turns of a tick leave an inactive voice as it was. -/
theorem tickVoices_voice_of_inactive {s : State} {w : ℕ} (dt : F32) (op : Byte) (h : (s.voice w).active = false) :
    (s.tickVoices dt op).voice w = s.voice w := by
  unfold State.tickVoices
  generalize List.range s.numVoices = l
  induction l generalizing s with
  | nil => rfl
  | cons v rest ih =>
    have hturn := tickVoice_voice_of_inactive v dt op h
    exact (ih (hturn ▸ h)).trans hturn

/-- Settles O37: the latch and the flush leave the voices, and the turns leave an inactive one. -/
theorem tickLeavesInactiveVoices : Obligations.TickLeavesInactiveVoices := by
  intro s t v hexec hinactive
  obtain rfl : (s.tickModulation.tickVoices s.tickDt 0x06#8).flushAll 0x06#8 = t := Host.Outcome.next.inj hexec
  have hlatch : s.tickModulation.voice v = s.voice v := by rw [State.voice, tickModulation_voices, State.voice]
  calc ((s.tickModulation.tickVoices s.tickDt 0x06#8).flushAll 0x06#8).voice v
      = (s.tickModulation.tickVoices s.tickDt 0x06#8).voice v := (flushAll_effect _ _).voice v
    _ = s.tickModulation.voice v := tickVoices_voice_of_inactive _ _ (hlatch ▸ hinactive)
    _ = s.voice v := hlatch

/-! ### The commands by hand -/

/-- Commands one after another: those of the first list, then those of the second. -/
theorem runAll_append (l m : List Instr) (s : State) : runAll (l ++ m) s = (runAll l s).bind (runAll m) := by
  induction l generalizing s with
  | nil => rfl
  | cons i rest ih =>
    rw [List.cons_append, runAll, runAll]
    cases exec i s
    case next t => exact ih t
    all_goals rfl

/-- UPDATE of a bound voice (41_voice.md R215). -/
theorem exec_update_of_bound {s : State} {v : Byte} (hbound : (s.voice v.toNat).bound = true) :
    exec (.update v) s = .next (s.updateVoice v.toNat 0x05#8) := by
  rw [exec, execUpdate, withVoice_of_lt (State.lt_of_bound hbound), if_pos hbound]

/-- Process keeps a voice bound (10_state.md R54). -/
theorem processVoice_bound {s : State} {v : ℕ} (op : Byte) (h : (s.voice v).bound = true) :
    ((s.processVoice v s.tickDt op).voice v).bound = true := by
  obtain ⟨hbound, -⟩ := (processVoice_changes s v op).sameIdentity.binding v h
  exact hbound

/-- PROCESS and UPDATE of a bound voice, one after the other (42_driver.md R262). -/
theorem runAll_process_update {s : State} {v : ℕ} (hv : v < 2 ^ 8) (hbound : (s.voice v).bound = true) :
    runAll [.process (BitVec.ofNat 8 v), .update (BitVec.ofNat 8 v)] s =
      some ((s.processVoice v s.tickDt 0x04#8).updateVoice v 0x05#8) := by
  obtain ⟨i, rfl⟩ : ∃ i : Byte, i.toNat = v := ⟨BitVec.ofNat 8 v, Nat.mod_eq_of_lt hv⟩
  simp only [BitVec.ofNat_toNat, BitVec.setWidth_eq, runAll, exec_process (State.lt_of_bound hbound),
    exec_update_of_bound (processVoice_bound 0x04#8 hbound)]

/-- The commands for the voices of l that are active in s: tickByHand without its FLUSH. -/
def handTurns (s : State) (l : List ℕ) : List Instr :=
  (l.filter (fun v => (s.voice v).active)).flatMap
    (fun v => [.process (BitVec.ofNat 8 v), .update (BitVec.ofNat 8 v)])

theorem tickByHand_eq (s : State) : tickByHand s = handTurns s (List.range s.numVoices) ++ [.flush] := rfl

theorem handTurns_of_active {s : State} {v : ℕ} (rest : List ℕ) (h : (s.voice v).active = true) :
    handTurns s (v :: rest) =
      [.process (BitVec.ofNat 8 v), .update (BitVec.ofNat 8 v)] ++ handTurns s rest := by
  simp only [handTurns, List.filter_cons, h, if_true, List.flatMap_cons]

theorem handTurns_of_inactive {s : State} {v : ℕ} (rest : List ℕ) (h : (s.voice v).active = false) :
    handTurns s (v :: rest) = handTurns s rest := by
  simp [handTurns, h]

section byHand
variable {s : State} (hsize : s.numVoices ≤ 64) (hbound : ∀ x ∈ s.voices, x.active = true → x.bound = true)
include hsize hbound

/-- An active voice of s is bound, and its index is an operand of PROCESS and UPDATE. -/
theorem bound_and_lt_of_active {v : ℕ} (h : (s.voice v).active = true) : (s.voice v).bound = true ∧ v < 2 ^ 8 := by
  have hv := State.lt_of_active h
  have hmem : s.voice v ∈ s.voices := by
    rw [State.voice, List.getD_eq_getElem _ _ hv]
    exact List.getElem_mem hv
  exact ⟨hbound _ hmem h, hv.trans (hsize.trans_lt (by norm_num))⟩

/-- One turn of TICK and the same turn by hand, in states whose voice v is as the tick began it. -/
theorem runAll_turn {t u : State} {v : ℕ} (htu : SameButOpc t u) (hvoice : t.voice v = s.voice v)
    (hactive : (s.voice v).active = true) :
    ∃ w, runAll [.process (BitVec.ofNat 8 v), .update (BitVec.ofNat 8 v)] u = some w ∧
      SameButOpc (t.tickVoice t.tickDt 0x06#8 v) w := by
  obtain ⟨hb, hv⟩ := bound_and_lt_of_active hsize hbound hactive
  have hu : u.voice v = s.voice v := (htu.voice v).trans hvoice
  refine ⟨_, runAll_process_update hv (hu ▸ hb), ?_⟩
  rw [tickVoice_of_active _ _ (hvoice ▸ hactive), htu.tickDt]
  exact updateVoice_sameButOpc (processVoice_sameButOpc (op := 0x06#8) (op' := 0x04#8) htu v t.tickDt rfl) ..

/-- The turns of TICK and the turns by hand, in states whose voices to come are as the tick began them. -/
theorem runAll_handTurns {l : List ℕ} (hl : l.Nodup) {t u : State} (htu : SameButOpc t u)
    (hvoices : ∀ v ∈ l, t.voice v = s.voice v) :
    ∃ w, runAll (handTurns s l) u = some w ∧ SameButOpc (l.foldl (State.tickVoice t.tickDt 0x06#8) t) w := by
  induction l generalizing t u with
  | nil => exact ⟨u, rfl, htu⟩
  | cons v rest ih =>
    obtain ⟨hv, hrest⟩ := List.nodup_cons.1 hl
    have hself : t.voice v = s.voice v := hvoices v List.mem_cons_self
    have hothers : ∀ w ∈ rest, t.voice w = s.voice w := fun w hw => hvoices w (List.mem_cons_of_mem v hw)
    rw [List.foldl_cons]
    cases hactive : (s.voice v).active
    case false =>
      rw [handTurns_of_inactive rest hactive, tickVoice_of_inactive _ _ (hself ▸ hactive)]
      exact ih hrest htu hothers
    case true =>
      obtain ⟨w, hrun, hturn⟩ := runAll_turn hsize hbound htu hself hactive
      have hkept : ∀ x ∈ rest, (t.tickVoice t.tickDt 0x06#8 v).voice x = s.voice x := fun x hx =>
        (tickVoice_voice_ne t _ _ (ne_of_mem_of_not_mem hx hv).symm).trans (hothers x hx)
      obtain ⟨hchanges, hdt⟩ := tickVoice_changes 0x06#8 t v
      rw [handTurns_of_active rest hactive, runAll_append, hrun]
      have hlater := ih hrest hturn hkept
      rwa [hdt] at hlater

/-- TICK and the tick by hand from the latched state (42_driver.md R260, R266). -/
theorem tick_eq_byHand :
    ∃ t u, exec .tick s = .next t ∧ runAll (tickByHand s) s.tickModulation = some u ∧
      t = { u with lastErr := { u.lastErr with opc := t.lastErr.opc } } := by
  have hvoices := tickModulation_voices s
  have hlatch : ∀ v ∈ List.range s.numVoices, s.tickModulation.voice v = s.voice v := fun v _ => by
    rw [State.voice, hvoices, State.voice]
  obtain ⟨w, hrun, hturns⟩ :=
    runAll_handTurns hsize hbound List.nodup_range (SameButOpc.refl s.tickModulation) hlatch
  have hsize' : s.tickModulation.numVoices = s.numVoices := congrArg List.length hvoices
  rw [tickModulation_tickDt, ← hsize'] at hturns
  refine ⟨_, w.flushAll 0x13#8, rfl, ?_, (flushAll_sameButOpc hturns 0x06#8 0x13#8).eq⟩
  rw [tickByHand_eq, runAll_append, hrun]
  rfl

end byHand

/-! ### The latch -/

/-- The latch of a scripted answer (42_driver.md R261). -/
theorem tickModulation_of_cons {s : State} {a : ModAnswer} {rest : List ModAnswer} (h : s.modAnswers = a :: rest) :
    s.tickModulation = s.latched a rest := by
  rw [State.tickModulation, askMod_cons (s := s.emit _) h]
  rfl

/-- The latch of a free answer (42_driver.md R261; logs 4 and 5). -/
theorem tickModulation_of_nil {s : State} (h : s.modAnswers = []) :
    s.tickModulation = { s with freeIndex := s.freeIndex + 1 }.latched (freeModAnswer s.freeIndex) [] := by
  simp [State.tickModulation, State.askMod, State.latched, State.emit, h]

/-- Settles O36: from the latched state, turn by turn, then the flush. -/
theorem tickIsTheHandSequence : Obligations.TickIsTheHandSequence := by
  intro s hsize hbound
  refine ⟨fun a rest hmod => ?_, fun hmod => ?_⟩
  · rw [← tickModulation_of_cons hmod]
    exact tick_eq_byHand hsize hbound
  · rw [← tickModulation_of_nil hmod]
    exact tick_eq_byHand hsize hbound

end Sys2Proof.Machine
end

section
/-! The runs of a board's bus operation (44_bus.md R344 to R346, R351): how many answers they take, what they come to on
the root bus and where every answer is success, and that the boards have no part in them. -/

namespace Sys2Proof.Machine

open Sys2Proof.Config

/-! ### Errors of the AAL spelled out -/

/-- The record of BoardUnreachable, an error of the AAL whoever raises it (60_exceptions.md R372, R373). -/
theorem raise_boardUnreachable (s : State) (i o : Byte) :
    s.raise .boardUnreachable i o = s.recorded 4 0x10#8 i o .aal := by
  simp [State.raise, State.recorded, State.emit, subsystemOf, errorCode, errorMask, errorBit]

/-- A board command in range runs its effect (30_encoding.md R148). -/
theorem withBoard_of_lt {s : State} {b : Byte} (hb : b.toNat < s.numBoards) (op : Byte) (f : State → State) :
    s.withBoard b op f = f s :=
  if_pos hb

/-! ### The boards beside a run -/

/-- s with other boards. -/
def State.withBoards (bs : List Board) (s : State) : State := { s with boards := bs }

@[simp] theorem withBoards_boards (bs : List Board) (s : State) : (s.withBoards bs).boards = bs := rfl
@[simp] theorem withBoards_params (bs : List Board) (s : State) : (s.withBoards bs).params = s.params := rfl
@[simp] theorem withBoards_busAnswers (bs : List Board) (s : State) : (s.withBoards bs).busAnswers = s.busAnswers := rfl

/-- Transactions read no board, so the boards may be set before or after them. -/
theorem afterTxns_withBoards (i op : Byte) (l : List Event) (bs : List Board) (s : State) :
    (s.withBoards bs).afterTxns i op l = (s.afterTxns i op l).withBoards bs := by
  induction l generalizing s with
  | nil => rfl
  | cons e l ih =>
    cases e with
    | txn k a out n st bytesIn =>
      unfold State.afterTxns
      dsimp only
      split
      · exact ih { s with trace := s.trace ++ [Event.txn k a out n st bytesIn] }
      · exact ih (State.recorded { s with trace := s.trace ++ [Event.txn k a out n st bytesIn] } 3 (statusCode st)
          i op .aal)
    | _ => exact ih { s with trace := s.trace ++ [_] }

theorem afterRun_withBoards (i op : Byte) (r : BusRun) (bs : List Board) (s : State) :
    (s.withBoards bs).afterRun i op r = (s.afterRun i op r).withBoards bs := by
  rw [State.afterRun, afterTxns_withBoards]
  rfl

theorem afterInit_withBoards (bd : Board) (i op : Byte) (ts : List (List Byte)) (bs : List Board) (s : State) :
    (s.withBoards bs).afterInit bd i op ts = (s.afterInit bd i op ts).withBoards bs := by
  induction ts generalizing s with
  | nil => rfl
  | cons t rest ih =>
    rw [State.afterInit, State.afterInit, afterRun_withBoards, ih]
    exact (apply_ite (State.withBoards bs) _ _ _).symm

@[simp] theorem afterRun_params (i op : Byte) (r : BusRun) (s : State) : (s.afterRun i op r).params = s.params :=
  (afterRun_effect i op r s).params
@[simp] theorem afterRun_board (i op : Byte) (r : BusRun) (s : State) (b : ℕ) :
    (s.afterRun i op r).board b = s.board b :=
  (afterRun_effect i op r s).board b
@[simp] theorem afterRun_boards (i op : Byte) (r : BusRun) (s : State) : (s.afterRun i op r).boards = s.boards :=
  (afterRun_effect i op r s).boards
@[simp] theorem afterRun_busAnswers (i op : Byte) (r : BusRun) (s : State) :
    (s.afterRun i op r).busAnswers = r.rest := rfl

/-! ### The answers a run takes -/

theorem segCount_le_one (bd : Board) : segCount bd ≤ 1 := by
  unfold segCount
  split <;> decide

theorem segCount_of_root {bd : Board} (h : bd.cluster = none) : segCount bd = 0 := if_pos h

theorem segCount_of_cluster {bd : Board} {c : BitVec 3} (h : bd.cluster = some c) : segCount bd = 1 :=
  if_neg (by simp [h])

/-- A write or a probe takes at most three answers. -/
theorem boardRun_rest_length (p : Params) (bd : Board) (kind : TxnKind) (bytes : List Byte)
    (answers : List BusAnswer) : answers.length ≤ (boardRun p bd kind bytes answers).rest.length + 3 := by
  unfold boardRun inSegment txnRun
  dsimp only
  split
  · simp only [List.length_drop]
    omega
  · split <;> simp only [List.length_drop] <;> omega

/-- A successful register read takes its two answers and those of its bracket. -/
theorem adcRun_rest_of_ok {p : Params} {bd : Board} {ptr : Byte} {answers : List BusAnswer}
    (h : (adcRun p bd ptr answers).status = .ok) :
    (adcRun p bd ptr answers).rest = answers.drop (2 * segCount bd + 2) := by
  have hregister {as : List BusAnswer} (hr : (registerRun bd ptr as).status = .ok) :
      (registerRun bd ptr as).rest = as.drop 2 := by
    unfold registerRun at hr ⊢
    dsimp only at hr ⊢
    split at hr
    · rename_i hpointer
      rw [if_pos hpointer]
    · contradiction
  unfold adcRun inSegment at h ⊢
  cases hc : bd.cluster with
  | none =>
    rw [hc] at h
    rw [segCount_of_root hc]
    exact hregister h
  | some c =>
    rw [hc] at h
    rw [segCount_of_cluster hc]
    dsimp only at h ⊢
    split at h
    · rename_i hselect
      rw [if_pos hselect]
      dsimp only
      rw [hregister h, List.drop_drop, List.drop_drop]
    · contradiction

/-! ### On the root bus -/

/-- A write or a probe of a root board is its one transaction (44_bus.md R344). -/
theorem boardRun_root {bd : Board} (h : bd.cluster = none) (p : Params) (kind : TxnKind) (bytes : List Byte)
    (a : BusAnswer) (rest : List BusAnswer) :
    boardRun p bd kind bytes (a :: rest) =
      { status := a.status, word := 0#16, txns := [.txn kind bd.addr bytes 0 a.status []], rest := rest } := by
  rw [boardRun, inSegment, h]
  rfl

/-- A register read of a root board is its pointer write and, after a success, its read (44_bus.md R351). -/
theorem adcRun_root {bd : Board} (h : bd.cluster = none) (p : Params) (ptr : Byte) (answers : List BusAnswer) :
    adcRun p bd ptr answers = registerRun bd ptr answers := by
  rw [adcRun, inSegment, h]

/-- A failed transaction's event and record (44_bus.md R356). -/
theorem afterTxns_failed {st : BusStatus} (h : st ≠ .ok) (i op : Byte) (k : TxnKind) (a : BusAddr)
    (out : List Byte) (n : ℕ) (bytesIn : List Byte) (s : State) :
    s.afterTxns i op [.txn k a out n st bytesIn] =
      { s with trace := s.trace ++ [Event.txn k a out n st bytesIn] }.recorded 3 (statusCode st) i op .aal :=
  if_neg h

/-- A failed transaction after a successful one (44_bus.md R356). -/
theorem afterTxns_second_failed {st : BusStatus} (h : st ≠ .ok) (i op : Byte) (k k' : TxnKind) (a a' : BusAddr)
    (out out' : List Byte) (n n' : ℕ) (bytesIn bytesIn' : List Byte) (s : State) :
    s.afterTxns i op [.txn k a out n .ok bytesIn, .txn k' a' out' n' st bytesIn'] =
      { s with trace := s.trace ++ [Event.txn k a out n .ok bytesIn, .txn k' a' out' n' st bytesIn'] }.recorded 3
        (statusCode st) i op .aal := by
  rw [State.afterTxns, if_pos rfl, afterTxns_failed h, List.append_assoc]
  rfl

/-- The failed transaction of a root board, with its record. -/
theorem afterRun_of_failed_root {bd : Board} (hc : bd.cluster = none) {s : State} {a : BusAnswer}
    {rest : List BusAnswer} (hanswers : s.busAnswers = a :: rest) (ha : a.status ≠ .ok) (i op : Byte)
    (kind : TxnKind) (bytes : List Byte) :
    s.afterRun i op (boardRun s.params bd kind bytes s.busAnswers) =
      { s with
        trace := s.trace ++ [Event.txn kind bd.addr bytes 0 a.status []]
        busAnswers := rest }.recorded 3 (statusCode a.status) i op .aal := by
  rw [hanswers, boardRun_root hc, State.afterRun, afterTxns_failed ha]
  rfl

/-! ### Where every answer is success -/

/-- s after events whose transactions were all answered success (44_bus.md R340). -/
def State.heard (es : List Event) (s : State) : State :=
  { s with trace := s.trace ++ es, busAnswers := s.busAnswers.drop (es.countP Event.isTxn) }


theorem heard_nil (s : State) : s.heard [] = s := by
  simp [State.heard]

/-- Events in two parts. -/
theorem heard_append (es fs : List Event) (s : State) : s.heard (es ++ fs) = (s.heard es).heard fs := by
  simp [State.heard]

/-- Success to n transactions is success to the first of them. -/
theorem AnswersOk.mono {m n : ℕ} {s : State} (h : AnswersOk n s) (hmn : m ≤ n) : AnswersOk m s :=
  ⟨hmn.trans h.1, fun a ha => h.2 a (List.take_subset_take_left _ hmn ha)⟩

/-- Success to all transactions is success to those of the first part, and then to those of the second. -/
theorem AnswersOk.split {es fs : List Event} {s : State} (h : AnswersOk ((es ++ fs).countP Event.isTxn) s) :
    AnswersOk (es.countP Event.isTxn) s ∧ AnswersOk (fs.countP Event.isTxn) (s.heard es) := by
  rw [List.countP_append] at h
  refine ⟨h.mono (Nat.le_add_right ..), ?_⟩
  obtain ⟨hlength, hok⟩ := h
  refine ⟨?_, fun a ha => ?_⟩
  · simp only [State.heard, List.length_drop]
    omega
  · rw [List.take_add] at hok
    exact hok a (List.mem_append_right _ ha)

/-- A scripted answer that is success. -/
theorem AnswersOk.answer {n k : ℕ} {s : State} (h : AnswersOk n s) (hk : k < n) :
    (s.busAnswers.getD k default).status = .ok := by
  obtain ⟨hlength, hok⟩ := h
  rw [List.getD_eq_getElem _ _ (hk.trans_le hlength)]
  exact hok _ (List.mem_take_iff_getElem.2 ⟨k, by omega, rfl⟩)

/-- The answer k places after the first n. -/
theorem getD_drop {α : Type} (l : List α) (n k : ℕ) (x : α) : (l.drop n).getD k x = l.getD (n + k) x := by
  rw [List.getD_eq_getElem?_getD, List.getElem?_drop, List.getD_eq_getElem?_getD]

/-- A bracketed operation of one transaction, with its select and its deselect. -/
@[simp] theorem countP_bracketOk (p : Params) (bd : Board) (kind : TxnKind) (bytes : List Byte) :
    (bracketOk p bd kind bytes).countP Event.isTxn = 2 * segCount bd + 1 := by
  unfold bracketOk selectOk deselectOk
  cases hc : bd.cluster with
  | none => rw [segCount_of_root hc]; rfl
  | some c => rw [segCount_of_cluster hc]; rfl

@[simp] theorem countP_adcReadOk (p : Params) (bd : Board) (ptr : Byte) (a : BusAnswer) :
    (adcReadOk p bd ptr a).countP Event.isTxn = 2 * segCount bd + 2 := by
  unfold adcReadOk selectOk deselectOk
  cases hc : bd.cluster with
  | none => rw [segCount_of_root hc]; rfl
  | some c => rw [segCount_of_cluster hc]; rfl

theorem countP_adcReadOk_append (p : Params) (bd : Board) (ptr ptr' : Byte) (a a' : BusAnswer) :
    (adcReadOk p bd ptr a ++ adcReadOk p bd ptr' a').countP Event.isTxn = 4 * segCount bd + 4 := by
  rw [List.countP_append, countP_adcReadOk, countP_adcReadOk]
  omega

/-- The run of a write or a probe that the bus answers with success (44_bus.md R346). -/
theorem boardRun_of_ok {s : State} {bd : Board} (h : AnswersOk (2 * segCount bd + 1) s) (p : Params) (kind : TxnKind)
    (bytes : List Byte) :
    boardRun p bd kind bytes s.busAnswers =
      { status := .ok, word := 0#16, txns := bracketOk p bd kind bytes,
        rest := s.busAnswers.drop (2 * segCount bd + 1) } := by
  unfold boardRun inSegment bracketOk selectOk deselectOk txnRun
  have hfirst := h.answer (k := 0) (by omega)
  cases hc : bd.cluster with
  | none =>
    rw [segCount_of_root hc]
    simp only [hfirst]
    rfl
  | some c =>
    rw [segCount_of_cluster hc] at h ⊢
    have hoperation := h.answer (k := 1) (by decide)
    have hdeselect := h.answer (k := 2) (by decide)
    simp only [hfirst, getD_drop, hoperation, hdeselect, if_true, List.drop_drop]
    rfl

/-- The run of a register read that the bus answers with success (44_bus.md R351). -/
theorem adcRun_of_ok {s : State} {bd : Board} (h : AnswersOk (2 * segCount bd + 2) s) (p : Params) (ptr : Byte) :
    let a := s.busAnswers.getD (segCount bd + 1) default
    adcRun p bd ptr s.busAnswers =
      { status := .ok, word := a.first ++ a.second, txns := adcReadOk p bd ptr a,
        rest := s.busAnswers.drop (2 * segCount bd + 2) } := by
  unfold adcRun inSegment adcReadOk selectOk deselectOk registerRun
  have hfirst := h.answer (k := 0) (by omega)
  have hread := h.answer (k := segCount bd + 1) (by omega)
  cases hc : bd.cluster with
  | none =>
    rw [segCount_of_root hc] at hread ⊢
    simp only [hfirst, hread, if_true]
    rfl
  | some c =>
    rw [segCount_of_cluster hc] at h hread ⊢
    have hpointer := h.answer (k := 1) (by decide)
    have hdeselect := h.answer (k := 3) (by decide)
    simp only [hfirst, getD_drop, hpointer, hread, hdeselect, if_true, List.drop_drop]
    rfl

/-- A write or a probe that the bus answers with success. -/
theorem afterRun_boardRun_of_ok {s : State} {bd : Board} (h : AnswersOk (2 * segCount bd + 1) s) (i op : Byte)
    (kind : TxnKind) (bytes : List Byte) :
    s.afterRun i op (boardRun s.params bd kind bytes s.busAnswers) = s.heard (bracketOk s.params bd kind bytes) := by
  rw [boardRun_of_ok h, State.heard, countP_bracketOk, State.afterRun]
  have htxns : s.afterTxns i op (bracketOk s.params bd kind bytes) =
      { s with trace := s.trace ++ bracketOk s.params bd kind bytes } := by
    unfold bracketOk selectOk deselectOk
    cases bd.cluster <;> simp [State.afterTxns]
  rw [htxns]

/-- A register read that the bus answers with success. -/
theorem afterRun_adcRun_of_ok {s : State} {bd : Board} (h : AnswersOk (2 * segCount bd + 2) s) (i op ptr : Byte) :
    s.afterRun i op (adcRun s.params bd ptr s.busAnswers) =
      s.heard (adcReadOk s.params bd ptr (s.busAnswers.getD (segCount bd + 1) default)) := by
  rw [adcRun_of_ok h, State.heard, countP_adcReadOk, State.afterRun]
  generalize s.busAnswers.getD (segCount bd + 1) default = a
  have htxns : s.afterTxns i op (adcReadOk s.params bd ptr a) =
      { s with trace := s.trace ++ adcReadOk s.params bd ptr a } := by
    unfold adcReadOk selectOk deselectOk
    cases bd.cluster <;> simp [State.afterTxns]
  rw [htxns]

end Sys2Proof.Machine
end

section
/-! The commands on one device (43_aal.md R289 to R296): SETAO, SETDO, STARTCONV and POLL. The last two run a bus
operation or two, so their effect for every answer is that of the runs, and their effect on a bus that answers every
transaction a case of it. -/

namespace Sys2Proof.Machine

open Sys2Proof.Config

/-! ### SETAO and SETDO -/

/-- SETDO's bit as the half word it buffers (43_aal.md R291). -/
theorem setWidth_bit : ∀ bit : BitVec 1, bit.setWidth 16 = 0#15 ++ bit := by decide

/-- Settles O42: both commands are SetOut, with its three outcomes. -/
theorem setaoAndSetdoBufferTheValue : Obligations.SetaoAndSetdoBufferTheValue := by
  intro s d value bit dev bd written
  have hsetao : exec (.setao d value) s = .next (s.setOut d .ao value 0x11#8) := rfl
  have hsetdo : exec (.setdo d bit) s = .next (s.setOut d .do_ (0#15 ++ bit) 0x12#8) := by
    rw [← setWidth_bit]
    rfl
  refine ⟨fun hd hkind hvalid => ?_, fun hd hkind hinvalid => ?_, fun hbad => ?_,
    fun hd hkind hvalid => ?_, fun hd hkind hinvalid => ?_, fun hbad => ?_⟩
  · rw [hsetao, setOut_of_valid _ _ ⟨hd, hkind⟩ hvalid]
    rfl
  · rw [hsetao, setOut_of_invalid _ _ ⟨hd, hkind⟩ hinvalid]
  · rw [hsetao, setOut_of_bad_handle _ _ hbad]
  · rw [hsetdo, setOut_of_valid _ _ ⟨hd, hkind⟩ hvalid]
    rfl
  · rw [hsetdo, setOut_of_invalid _ _ ⟨hd, hkind⟩ hinvalid]
  · rw [hsetdo, setOut_of_bad_handle _ _ hbad]

/-! ### STARTCONV -/

/-- The fields of the default configuration word in their places (44_bus.md R352). -/
theorem defaultAdcConfig_eq (sel gain rate : BitVec 3) :
    defaultAdcConfig sel gain rate =
      0x8000#16 ||| (sel.setWidth 16 <<< 12) ||| (gain.setWidth 16 <<< 9) ||| 0x0100#16 |||
        (rate.setWidth 16 <<< 5) ||| 0x0003#16 := by
  revert sel gain rate
  decide +kernel

/-- The bytes STARTCONV writes: the pointer and the configuration word, high byte first (43_aal.md R295). -/
def State.configBytes (d : Byte) (s : State) : List Byte :=
  let w := adcConfig s.params (s.device d.toNat).adcSel s.adcGain s.adcRate
  [s.params.adcPtrConfig, w.extractLsb' 8 8, w.extractLsb' 0 8]

section startconv
variable {s : State} {d : Byte}

/-- A handle that is no analog-in device is recorded (20_memory.md R108). -/
theorem exec_startconv_of_bad_handle (hbad : ¬(d.toNat < s.numDevices ∧ (s.device d.toNat).kind = .ai)) :
    exec (.startconv d) s = .next (s.recorded 1 0x13#8 d 0x14#8 .aal) := by
  rw [exec, execStartconv, State.startConversion, State.translate, if_neg hbad, ← raise_invalidLogicalDevice]

variable (hd : d.toNat < s.numDevices ∧ (s.device d.toNat).kind = .ai)
include hd

/-- STARTCONV on an invalid board does nothing (43_aal.md R295). -/
theorem exec_startconv_of_invalid (hinvalid : (s.board (s.device d.toNat).board.toNat).valid = false) :
    exec (.startconv d) s = .next s := by
  rw [exec, execStartconv, State.startConversion, State.translate, if_pos hd]
  exact congrArg _ (if_neg (Bool.eq_false_iff.1 hinvalid))

/-- STARTCONV on a valid board is the run of its write, remembered after a success (43_aal.md R295). -/
theorem exec_startconv_run (hvalid : (s.board (s.device d.toNat).board.toNat).valid = true)
    (hlength : 2 * segCount (s.board (s.device d.toNat).board.toNat) + 1 ≤ s.busAnswers.length) :
    let r := boardRun s.params (s.board (s.device d.toNat).board.toNat) .write (s.configBytes d) s.busAnswers
    let t := s.afterRun (s.device d.toNat).board 0x14#8 r
    (r.status = .ok → exec (.startconv d) s = .next { t with awaiting := true, awaitDev := d }) ∧
    (r.status ≠ .ok → exec (.startconv d) s = .next t) := by
  intro r t
  have hexec : exec (.startconv d) s =
      .next (if r.status = .ok then { t with awaiting := true, awaitDev := d } else t) := by
    rw [exec, execStartconv, State.startConversion, State.translate, if_pos hd]
    dsimp only
    rw [if_pos hvalid, boardWrite_run hlength, BitVec.ofNat_toNat, BitVec.setWidth_eq]
    rfl
  exact ⟨fun hstatus => hexec.trans (congrArg _ (if_pos hstatus)),
    fun hstatus => hexec.trans (congrArg _ (if_neg hstatus))⟩

end startconv

/-- Settles O47: the run of the write, with its cases on a bus that answers and on the root bus. -/
theorem startconvRemembersTheDevice : Obligations.StartconvRemembersTheDevice := by
  intro s d dev b bd w bytes
  refine ⟨fun hdefault => ?_, fun hd hkind hvalid hok => ?_, fun a rest hd hkind hvalid hroot hanswers ha => ?_,
    fun hd hkind hinvalid => exec_startconv_of_invalid ⟨hd, hkind⟩ hinvalid, exec_startconv_of_bad_handle,
    fun hd hkind hvalid hlength => exec_startconv_run ⟨hd, hkind⟩ hvalid hlength⟩
  · rw [← defaultAdcConfig_eq]
    simp only [w, adcConfig, hdefault, tableGet]
  · obtain ⟨hsent, -⟩ := exec_startconv_run ⟨hd, hkind⟩ hvalid hok.1
    rw [hsent (congrArg _ (boardRun_of_ok hok ..)), afterRun_boardRun_of_ok hok, State.heard, countP_bracketOk]
    rfl
  · have hlength : 2 * segCount bd + 1 ≤ s.busAnswers.length := by
      rw [segCount_of_root hroot, hanswers]
      exact Nat.le_add_left ..
    have hstatus : (boardRun s.params bd .write bytes s.busAnswers).status ≠ .ok := by
      rwa [hanswers, boardRun_root hroot]
    obtain ⟨-, hfailed⟩ := exec_startconv_run ⟨hd, hkind⟩ hvalid hlength
    rw [hfailed hstatus, afterRun_of_failed_root hroot hanswers ha]
    rfl

/-! ### POLL -/

/-- The board whose conversion is awaited (43_aal.md R296). -/
def State.awaitedBoard (s : State) : Board := s.board (s.device s.awaitDev.toNat).board.toNat

/-- The run of POLL's status read (43_aal.md R296). -/
def State.statusRun (s : State) : BusRun := adcRun s.params s.awaitedBoard s.params.adcPtrConfig s.busAnswers

/-- s after POLL's status read. -/
def State.afterStatus (s : State) : State := s.afterRun (s.device s.awaitDev.toNat).board 0x15#8 s.statusRun

/-- The run of POLL's result read, with the answers the status read leaves (43_aal.md R296). -/
def State.resultRun (s : State) : BusRun := adcRun s.params s.awaitedBoard s.params.adcPtrConv s.statusRun.rest

/-- s after both of POLL's reads. -/
def State.afterResult (s : State) : State :=
  s.afterStatus.afterRun (s.device s.awaitDev.toNat).board 0x15#8 s.resultRun

/-- POLL with nothing awaited does nothing (43_aal.md R296). -/
theorem exec_poll_of_not_awaiting {s : State} (h : s.awaiting = false) : exec .poll s = .next s := by
  rw [exec, execPoll, State.pollConversion, if_pos (by rw [h]; rfl)]

section poll
variable {s : State} (hawaiting : s.awaiting = true)
include hawaiting

/-- POLL of an invalid board does nothing (43_aal.md R296). -/
theorem exec_poll_of_invalid (hinvalid : s.awaitedBoard.valid = false) : exec .poll s = .next s := by
  rw [exec, execPoll, State.pollConversion, if_neg (by simp [hawaiting])]
  exact congrArg _ (if_pos (by rw [Bool.not_eq_true']; exact hinvalid))

variable (hvalid : s.awaitedBoard.valid = true)
include hvalid

/-- POLL's decision after its status read. -/
theorem exec_poll_status (hlength : 2 * segCount s.awaitedBoard + 2 ≤ s.busAnswers.length) :
    exec .poll s = .next
      (if s.statusRun.status ≠ .ok then s.afterStatus
      else if !adcNotBusy s.params s.statusRun.word then s.afterStatus
      else
        let r := s.afterStatus.adcRead (s.device s.awaitDev.toNat).board.toNat s.params.adcPtrConv 0x15#8
        if r.1.1 ≠ .ok then r.2 else r.2.deliver r.1.2) := by
  rw [exec, execPoll, State.pollConversion, if_neg (by simp [hawaiting])]
  dsimp only
  rw [if_neg (by rw [Bool.not_eq_true', Bool.not_eq_false]; exact hvalid), adcRead_run hlength, BitVec.ofNat_toNat,
    BitVec.setWidth_eq]
  rfl

/-- A status read that fails, or that finds the converter busy, is all that POLL does (43_aal.md R296). -/
theorem exec_poll_of_pending (hlength : 2 * segCount s.awaitedBoard + 2 ≤ s.busAnswers.length)
    (hpending : s.statusRun.status ≠ .ok ∨ adcNotBusy s.params s.statusRun.word = false) :
    exec .poll s = .next s.afterStatus := by
  rw [exec_poll_status hawaiting hvalid hlength]
  rcases hpending with hstatus | hbusy
  · rw [if_pos hstatus]
  · rw [hbusy, Bool.not_false, if_pos rfl, ite_self]

/-- After a status read that finds the converter ready, POLL reads the result and delivers it (43_aal.md R296). -/
theorem exec_poll_of_ready (hlength : 4 * segCount s.awaitedBoard + 4 ≤ s.busAnswers.length)
    (hstatus : s.statusRun.status = .ok) (hready : adcNotBusy s.params s.statusRun.word = true) :
    exec .poll s = .next
      (if s.resultRun.status ≠ .ok then s.afterResult else s.afterResult.deliver s.resultRun.word) := by
  rw [exec_poll_status hawaiting hvalid (by omega), if_neg (not_not.2 hstatus), hready, Bool.not_true,
    if_neg Bool.false_ne_true]
  have hboard : s.afterStatus.board (s.device s.awaitDev.toNat).board.toNat = s.awaitedBoard := afterRun_board ..
  have hanswers : s.afterStatus.busAnswers = s.statusRun.rest := rfl
  have hrest : s.statusRun.rest = s.busAnswers.drop (2 * segCount s.awaitedBoard + 2) := adcRun_rest_of_ok hstatus
  have hparams : s.afterStatus.params = s.params := afterRun_params ..
  rw [adcRead_run (by rw [hboard, hanswers, hrest, List.length_drop]; omega), hboard, hparams, BitVec.ofNat_toNat,
    BitVec.setWidth_eq]
  rfl

end poll

section reads
variable {s : State}

/-- A status read that the bus answers with success (44_bus.md R351). -/
theorem statusRun_of_ok (hok : AnswersOk (2 * segCount s.awaitedBoard + 2) s) :
    let a := s.busAnswers.getD (segCount s.awaitedBoard + 1) default
    s.statusRun.status = .ok ∧ s.statusRun.word = a.first ++ a.second ∧
      s.afterStatus = s.heard (adcReadOk s.params s.awaitedBoard s.params.adcPtrConfig a) := by
  have hrun := adcRun_of_ok hok s.params s.params.adcPtrConfig
  exact ⟨congrArg _ hrun, congrArg _ hrun, afterRun_adcRun_of_ok hok ..⟩

/-- Both reads where the bus answers them with success (44_bus.md R351). -/
theorem resultRun_of_ok (hok : AnswersOk (4 * segCount s.awaitedBoard + 4) s) :
    let a := s.busAnswers.getD (segCount s.awaitedBoard + 1) default
    let c := s.busAnswers.getD (3 * segCount s.awaitedBoard + 3) default
    s.resultRun.status = .ok ∧ s.resultRun.word = c.first ++ c.second ∧
      s.afterResult = s.heard (adcReadOk s.params s.awaitedBoard s.params.adcPtrConfig a ++
        adcReadOk s.params s.awaitedBoard s.params.adcPtrConv c) := by
  intro a c
  obtain ⟨-, -, hafter⟩ := statusRun_of_ok (hok.mono (by omega))
  rw [← countP_adcReadOk_append s.params s.awaitedBoard s.params.adcPtrConfig s.params.adcPtrConv a c] at hok
  obtain ⟨-, hsecond⟩ := hok.split
  rw [← hafter, countP_adcReadOk] at hsecond
  have hanswer : s.afterStatus.busAnswers.getD (segCount s.awaitedBoard + 1) default = c := by
    rw [hafter, State.heard, countP_adcReadOk, getD_drop]
    exact congrArg (s.busAnswers.getD · default) (by omega)
  have hparams : s.afterStatus.params = s.params := afterRun_params ..
  have hrun := adcRun_of_ok hsecond s.params s.params.adcPtrConv
  have hresult := afterRun_adcRun_of_ok hsecond (s.device s.awaitDev.toNat).board 0x15#8 s.params.adcPtrConv
  rw [hanswer] at hrun hresult
  rw [hparams] at hresult
  refine ⟨congrArg _ hrun, congrArg _ hrun, hresult.trans ?_⟩
  rw [hafter, heard_append]

/-- The status read of a root board whose pointer write fails (44_bus.md R351, R356). -/
theorem statusRun_of_pointer_failed (hroot : s.awaitedBoard.cluster = none) {a : BusAnswer} {rest : List BusAnswer}
    (hanswers : s.busAnswers = a :: rest) (ha : a.status ≠ .ok) :
    s.statusRun =
      { status := a.status
        word := 0#16
        txns := [.txn .write s.awaitedBoard.addr [s.params.adcPtrConfig] 0 a.status []]
        rest := rest } := by
  rw [State.statusRun, adcRun_root hroot, hanswers]
  exact if_neg ha

/-- The status read of a root board whose read fails (44_bus.md R351, R356). -/
theorem statusRun_of_read_failed (hroot : s.awaitedBoard.cluster = none) {a₁ a₂ : BusAnswer}
    {rest : List BusAnswer} (hanswers : s.busAnswers = a₁ :: a₂ :: rest) (h₁ : a₁.status = .ok)
    (h₂ : a₂.status ≠ .ok) :
    s.statusRun =
      { status := a₂.status
        word := 0#16
        txns := [.txn .write s.awaitedBoard.addr [s.params.adcPtrConfig] 0 .ok [],
          .txn .read s.awaitedBoard.addr [] 2 a₂.status []]
        rest := rest } := by
  rw [State.statusRun, adcRun_root hroot, hanswers]
  refine (if_pos h₁).trans ?_
  simp [h₂]

end reads

/-- Settles O48: the runs of the two reads, with their cases on a bus that answers and on the root bus. -/
theorem pollDeliversACompletedConversion : Obligations.PollDeliversACompletedConversion := by
  intro s dev bd k status result pointer
  have hmiddle (hlength : 4 * k + 4 ≤ s.busAnswers.length) : 2 * k + 2 ≤ s.busAnswers.length := by omega
  refine ⟨exec_poll_of_not_awaiting, exec_poll_of_invalid, fun hawaiting hvalid hok hbusy => ?_,
    fun hawaiting hvalid hok hready => ?_, fun a₁ a₂ rest hawaiting hvalid hroot hanswers => ?_,
    fun hawaiting hvalid hlength => ⟨fun hpending => ?_, fun hstatus hready hresult => ?_,
      fun hstatus hready hresult => ?_⟩⟩
  · obtain ⟨-, hword, hafter⟩ := statusRun_of_ok hok
    rw [exec_poll_of_pending hawaiting hvalid hok.1 (.inr (by rwa [hword])), hafter, State.heard, countP_adcReadOk]
    rfl
  · obtain ⟨hstatus, hword, -⟩ := statusRun_of_ok (hok.mono (show 2 * k + 2 ≤ 4 * k + 4 by omega))
    obtain ⟨hresult, hraw, hafter⟩ := resultRun_of_ok hok
    rw [exec_poll_of_ready hawaiting hvalid hok.1 hstatus (by rwa [hword]), if_neg (not_not.2 hresult), hraw, hafter,
      State.heard, countP_adcReadOk_append, ← List.append_assoc]
    rfl
  · have hlength : 2 * segCount bd + 2 ≤ s.busAnswers.length := by
      rw [segCount_of_root hroot, hanswers]
      exact Nat.le_add_left ..
    refine ⟨fun h₁ => ?_, fun h₁ h₂ => ?_⟩
    · have hrun := statusRun_of_pointer_failed hroot hanswers h₁
      rw [exec_poll_of_pending hawaiting hvalid hlength (.inl (by rwa [hrun])), State.afterStatus, hrun,
        State.afterRun, afterTxns_failed h₁]
      rfl
    · have hrun := statusRun_of_read_failed hroot hanswers h₁ h₂
      rw [exec_poll_of_pending hawaiting hvalid hlength (.inl (by rwa [hrun])), State.afterStatus, hrun,
        State.afterRun, afterTxns_second_failed h₂]
      rfl
  · exact exec_poll_of_pending hawaiting hvalid (hmiddle hlength) hpending
  · exact (exec_poll_of_ready hawaiting hvalid hlength hstatus hready).trans (congrArg _ (if_pos hresult))
  · exact (exec_poll_of_ready hawaiting hvalid hlength hstatus hready).trans
      (congrArg _ (if_neg (not_not.2 hresult)))

end Sys2Proof.Machine
end

section
/-! Board bring-up (43_aal.md R285, R297, R298): the probe that sets VALID, the init sequence after a successful one,
and the commands VALIDATE and RESETBOARD made of them. -/

namespace Sys2Proof.Machine

open Sys2Proof.Config

/-! ### Whatever the bus answers -/

/-- Bringing a board up sets its VALID and no other field of a board (43_aal.md R285). -/
theorem bringUp_boards (op : Byte) (s : State) (b : ℕ) :
    (s.bringUp op b).boards =
      s.boards.set b { s.board b with valid := decide ((s.boardProbe b op).1 = .ok) } := by
  rw [← validateBoard_boards s b op]
  unfold State.bringUp
  dsimp only
  split
  · exact (initBoard_effect ..).boards
  · rfl

/-- Beside the boards, bringing a board up is a bus effect. -/
theorem bringUp_effect (op : Byte) (s : State) (b : ℕ) :
    BusEffect { s with boards := (s.bringUp op b).boards } (s.bringUp op b) := by
  unfold State.bringUp
  dsimp only
  split
  · rw [(initBoard_effect ..).boards]
    exact (validateBoard_effect ..).trans (initBoard_effect ..)
  · exact validateBoard_effect ..

/-! ### VALIDATE -/

/-- ValidateBoard is the run of its probe, with BoardUnreachable recorded after a failure (43_aal.md R297). -/
theorem validateBoard_run {s : State} {b : ℕ} (hlength : 2 * segCount (s.board b) + 1 ≤ s.busAnswers.length)
    (op : Byte) :
    let r := boardRun s.params (s.board b) .probe [] s.busAnswers
    let t := (s.afterRun (BitVec.ofNat 8 b) op r).setBoard b
      { s.board b with valid := decide (r.status = .ok) }
    (r.status = .ok → s.validateBoard b op = t) ∧
    (r.status ≠ .ok → s.validateBoard b op = t.recorded 4 0x10#8 (BitVec.ofNat 8 b) op .aal) := by
  intro r t
  have hvalidate : s.validateBoard b op =
      if r.status = .ok then t else t.raise .boardUnreachable (BitVec.ofNat 8 b) op := by
    rw [State.validateBoard, boardProbe_run hlength]
    dsimp only
    rw [afterRun_board]
  rw [raise_boardUnreachable] at hvalidate
  exact ⟨fun hstatus => hvalidate.trans (if_pos hstatus), fun hstatus => hvalidate.trans (if_neg hstatus)⟩

/-- ValidateBoard where the bus answers with success. -/
theorem validateBoard_of_ok {s : State} {b : ℕ} (hok : AnswersOk (2 * segCount (s.board b) + 1) s) (op : Byte) :
    s.validateBoard b op =
      (s.heard (bracketOk s.params (s.board b) .probe [])).setBoard b { s.board b with valid := true } := by
  obtain ⟨hreached, -⟩ := validateBoard_run hok.1 op
  rw [hreached (congrArg _ (boardRun_of_ok hok ..)), afterRun_boardRun_of_ok hok, boardRun_of_ok hok]
  rfl

/-- VALIDATE in range is ValidateBoard (43_aal.md R297). -/
theorem exec_validate {s : State} {b : Byte} (hb : b.toNat < s.numBoards) :
    exec (.validate b) s = .next (s.validateBoard b.toNat 0x16#8) :=
  congrArg _ (withBoard_of_lt hb _ _)

/-- Settles O49: the run of the probe, with its cases on a bus that answers and on the root bus. -/
theorem validateSetsValidity : Obligations.ValidateSetsValidity := by
  intro s b hb bd
  have hindex : BitVec.ofNat 8 b.toNat = b := by simp
  rw [exec_validate hb]
  refine ⟨fun hok => ?_, fun a rest hroot hanswers ha => ?_, fun hlength => ?_⟩
  · rw [validateBoard_of_ok hok, State.heard, countP_bracketOk]
    rfl
  · have hlength : 2 * segCount bd + 1 ≤ s.busAnswers.length := by
      rw [segCount_of_root hroot, hanswers]
      exact Nat.le_add_left ..
    have hstatus : (boardRun s.params bd .probe [] s.busAnswers).status ≠ .ok := by
      rwa [hanswers, boardRun_root hroot]
    obtain ⟨-, hunreached⟩ := validateBoard_run hlength 0x16#8
    rw [hunreached hstatus, hindex, afterRun_of_failed_root hroot hanswers ha, decide_eq_false hstatus]
    rfl
  · obtain ⟨hreached, hunreached⟩ := validateBoard_run hlength 0x16#8
    rw [hindex, State.setBoard, afterRun_boards] at hreached hunreached
    exact ⟨fun hstatus => congrArg _ (hreached hstatus), fun hstatus => congrArg _ (hunreached hstatus)⟩

/-! ### The init sequence -/

/-- The init writes are the runs of the board's writes; its VALID has no part in them (43_aal.md R285). -/
theorem initWrites_run {s : State} {b : ℕ} {bd : Board} {ok : Bool} (hbd : s.board b = { bd with valid := ok })
    (op : Byte) {ts : List (List Byte)} (hlength : 3 * ts.length ≤ s.busAnswers.length) :
    State.initWrites b op ts s = s.afterInit bd (BitVec.ofNat 8 b) op ts := by
  induction ts generalizing s with
  | nil => rfl
  | cons t rest ih =>
    rw [List.length_cons] at hlength
    have hseg := segCount_le_one (s.board b)
    have hleft := boardRun_rest_length s.params bd .write t s.busAnswers
    have hrun : boardRun s.params (s.board b) .write t s.busAnswers = boardRun s.params bd .write t s.busAnswers := by
      rw [hbd]
      rfl
    rw [State.initWrites, State.afterInit, boardWrite_run (by omega), hrun]
    dsimp only
    rw [ih ((afterRun_board ..).trans hbd) (by rw [afterRun_busAnswers]; omega)]

/-- The init writes where the bus answers with success. -/
theorem initWrites_of_ok {s : State} {b : ℕ} (op : Byte) {ts : List (List Byte)}
    (hok : AnswersOk ((ts.flatMap (bracketOk s.params (s.board b) .write)).countP Event.isTxn) s) :
    State.initWrites b op ts s = s.heard (ts.flatMap (bracketOk s.params (s.board b) .write)) := by
  induction ts generalizing s with
  | nil => exact (heard_nil s).symm
  | cons t rest ih =>
    rw [List.flatMap_cons] at hok ⊢
    obtain ⟨hwrite, hrest⟩ := hok.split
    rw [countP_bracketOk] at hwrite
    rw [State.initWrites, boardWrite_run hwrite.1, afterRun_boardRun_of_ok hwrite, boardRun_of_ok hwrite]
    dsimp only
    rw [if_pos rfl, ih hrest, heard_append]
    rfl

/-! ### Bringing a board up -/

/-- The transactions of a board that answers its probe and its init writes (43_aal.md R285). -/
def bringUpOk (p : Params) (bd : Board) : List Event := bracketOk p bd .probe [] ++ initOk p bd

/-- After a successful probe the board is initialised (43_aal.md R285). -/
theorem bringUp_of_valid {s t : State} {op : Byte} {b : ℕ} {bd : Board} (hvalidated : s.validateBoard b op = t)
    (hbd : t.board b = { bd with valid := true }) :
    s.bringUp op b = State.initWrites b op (initSeq t.params bd.family bd.nch) t := by
  rw [State.bringUp, hvalidated, State.initBoard, hbd, if_pos rfl]

/-- After a failed probe nothing more is done (43_aal.md R285). -/
theorem bringUp_of_invalid {s t : State} {op : Byte} {b : ℕ} (hvalidated : s.validateBoard b op = t)
    (hinvalid : (t.board b).valid = false) : s.bringUp op b = t := by
  rw [State.bringUp, hvalidated]
  exact if_neg (Bool.eq_false_iff.1 hinvalid)

section bringUp
variable {s : State} {b : ℕ} (hb : b < s.numBoards) (op : Byte)
include hb

/-- Bringing a board up is the run of its probe and, after a success, the runs of its init writes
(43_aal.md R285). -/
theorem bringUp_run
    (hlength : 3 + 3 * (initSeq s.params (s.board b).family (s.board b).nch).length ≤ s.busAnswers.length) :
    let r := boardRun s.params (s.board b) .probe [] s.busAnswers
    let probed := s.afterRun (BitVec.ofNat 8 b) op r
    let validated := s.boards.set b { s.board b with valid := decide (r.status = .ok) }
    (r.status = .ok → s.bringUp op b =
      (probed.afterInit (s.board b) (BitVec.ofNat 8 b) op
        (initSeq s.params (s.board b).family (s.board b).nch)).withBoards validated) ∧
    (r.status ≠ .ok → s.bringUp op b =
      (probed.recorded 4 0x10#8 (BitVec.ofNat 8 b) op .aal).withBoards validated) := by
  intro r probed validated
  have hseg := segCount_le_one (s.board b)
  have hprobed : probed.setBoard b { s.board b with valid := decide (r.status = .ok) } =
      probed.withBoards validated := by
    rw [State.setBoard, afterRun_boards]
    rfl
  have hread : (probed.withBoards validated).board b = { s.board b with valid := decide (r.status = .ok) } := by
    rw [← hprobed, State.setBoard_board_self _ _ _ (by rw [afterRun_boards]; exact hb)]
  obtain ⟨hreached, hunreached⟩ := validateBoard_run (b := b) (by omega : _ ≤ s.busAnswers.length) op
  rw [hprobed] at hreached hunreached
  refine ⟨fun hstatus => ?_, fun hstatus => ?_⟩
  · rw [decide_eq_true hstatus] at hread
    have hleft : s.busAnswers.length ≤ r.rest.length + 3 := boardRun_rest_length ..
    have hinit : State.initWrites b op (initSeq s.params (s.board b).family (s.board b).nch)
        (probed.withBoards validated) = _ :=
      initWrites_run hread op (by rw [withBoards_busAnswers, afterRun_busAnswers]; omega)
    rw [bringUp_of_valid (hreached hstatus) hread, withBoards_params, afterRun_params, hinit, afterInit_withBoards]
  · rw [decide_eq_false hstatus] at hread
    exact bringUp_of_invalid (hunreached hstatus) (congrArg Board.valid hread)

/-- Bringing a board up where the bus answers with success. -/
theorem bringUp_of_ok (hok : AnswersOk ((bringUpOk s.params (s.board b)).countP Event.isTxn) s) :
    s.bringUp op b =
      (s.heard (bringUpOk s.params (s.board b))).setBoard b { s.board b with valid := true } := by
  obtain ⟨hprobe, hinit⟩ := hok.split
  rw [countP_bracketOk] at hprobe
  have hread : ((s.heard (bracketOk s.params (s.board b) .probe [])).setBoard b
      { s.board b with valid := true }).board b = { s.board b with valid := true } :=
    State.setBoard_board_self _ _ _ hb
  rw [bringUp_of_valid (validateBoard_of_ok hprobe op) hread, initWrites_of_ok op (by rw [hread]; exact hinit), hread,
    bringUpOk, heard_append]
  rfl

end bringUp

/-! ### RESETBOARD -/

/-- RESETBOARD in range brings the board up and empties it (43_aal.md R298). -/
theorem exec_resetboard {s : State} {b : Byte} (hb : b.toNat < s.numBoards) {t : State}
    {bd : Board} {ok : Bool} (hup : s.bringUp 0x17#8 b.toNat = t)
    (hboards : t.boards = s.boards.set b.toNat { bd with valid := ok }) :
    exec (.resetboard b) s = .next
      { t with
        boards := s.boards.set b.toNat { bd with valid := ok, buf := List.replicate 16 0#16, dirty := 0#16 } } := by
  have hread : t.board b.toNat = { bd with valid := ok } := by
    rw [State.board, hboards]
    exact State.setBoard_board_self s b.toNat _ hb
  refine congrArg _ ((withBoard_of_lt hb _ _).trans ?_)
  rw [State.resetBoard, hup]
  dsimp only
  rw [hread, State.setBoard, hboards, List.set_set]

/-- Settles O51: the board is brought up, by the runs of its probe and of its init writes, and then emptied. -/
theorem resetboardClearsTheBuffer : Obligations.ResetboardClearsTheBuffer := by
  intro s b hb bd ev
  have hindex : BitVec.ofNat 8 b.toNat = b := by simp
  refine ⟨?_, fun hok => ?_, fun hlength => ⟨fun hstatus => ?_, fun hstatus => ?_⟩⟩
  · have hboards := bringUp_boards 0x17#8 s b.toNat
    exact ⟨_, _, exec_resetboard hb rfl hboards, rfl, (bringUp_effect 0x17#8 s b.toNat).withBoards _⟩
  · rw [exec_resetboard hb (bringUp_of_ok hb _ hok) rfl]
    rfl
  · obtain ⟨hreached, -⟩ := bringUp_run hb 0x17#8 hlength
    rw [exec_resetboard hb (hreached hstatus) rfl, hindex]
    rfl
  · obtain ⟨-, hunreached⟩ := bringUp_run hb 0x17#8 hlength
    rw [exec_resetboard hb (hunreached hstatus) rfl, hindex]
    rfl

end Sys2Proof.Machine
end

section
/-! FLUSH (43_aal.md R292 to R294), a scan of the boards whose turn k writes board k alone: so it meets each board as
the scan began it, and what its turns do to the trace and the answers follows one after another. -/

namespace Sys2Proof.Machine

open Sys2Proof.Config

/-! ### Scans of the boards -/

/-- A list whose first n + 1 entries are mapped, from one whose first n are. -/
theorem set_map_take_append_drop {α : Type} (g : α → α) {l : List α} {n : ℕ} (hn : n < l.length) :
    ((l.take n).map g ++ l.drop n).set n (g l[n]) = (l.take (n + 1)).map g ++ l.drop (n + 1) := by
  have hlength : ((l.take n).map g).length = n := by simp [hn.le]
  rw [List.set_append_right _ _ hlength.le, hlength, Nat.sub_self, List.drop_eq_getElem_cons hn, List.set_cons_zero,
    List.take_succ_eq_append_getElem hn, List.map_append, List.append_assoc]
  rfl

/-- A scan whose turn k maps board k maps every board, and what its turns keep holds after it. -/
theorem foldl_boards_induction {f : State → ℕ → State} {g : Board → Board} {s : State} {Q : ℕ → State → Prop}
    (hzero : Q 0 s)
    (hturn : ∀ k u, k < s.numBoards → u.numBoards = s.numBoards → u.board k = s.board k → Q k u →
      (f u k).boards = u.boards.set k (g (u.board k)) ∧ Q (k + 1) (f u k)) :
    ((List.range s.numBoards).foldl f s).boards = s.boards.map g ∧
      Q s.numBoards ((List.range s.numBoards).foldl f s) := by
  have hscan : ∀ n ≤ s.numBoards,
      ((List.range n).foldl f s).boards = (s.boards.take n).map g ++ s.boards.drop n ∧
        Q n ((List.range n).foldl f s) := by
    intro n hn
    induction n with
    | zero => exact ⟨rfl, hzero⟩
    | succ n ih =>
      obtain ⟨hboards, hQ⟩ := ih (Nat.le_of_succ_le hn)
      have hlt : n < s.boards.length := hn
      have hread : ((List.range n).foldl f s).board n = s.boards[n] := by
        rw [State.board, hboards, List.getD_append_right _ _ _ _ (by simp [hlt.le])]
        simp [hlt.le, List.getD_eq_getElem?_getD, hlt]
      have hself : s.board n = s.boards[n] := List.getD_eq_getElem _ _ hlt
      have hsize : ((List.range n).foldl f s).numBoards = s.numBoards := by
        rw [State.numBoards, hboards]
        simp [State.numBoards, hlt.le]
      obtain ⟨hset, hnext⟩ := hturn n _ hlt hsize (hread.trans hself.symm) hQ
      rw [List.range_succ, List.foldl_append]
      refine ⟨?_, hnext⟩
      rw [List.foldl_cons, List.foldl_nil, hset, hread, hboards, set_map_take_append_drop g hlt]
  obtain ⟨hboards, hQ⟩ := hscan s.numBoards le_rfl
  rw [State.numBoards, List.take_length, List.drop_length, List.append_nil] at hboards
  exact ⟨hboards, hQ⟩

/-- A scan on a bus that answers with success, whose turn at a board issues that board's events and maps it. -/
theorem foldl_heard {f : State → ℕ → State} {g : Board → Board} {s : State} {events : Board → List Event}
    (hturn : ∀ u k, k < u.numBoards → u.params = s.params → u.freeIndex = s.freeIndex →
      AnswersOk ((events (u.board k)).countP Event.isTxn) u →
      f u k = (u.heard (events (u.board k))).setBoard k (g (u.board k)))
    (hok : AnswersOk ((s.boards.flatMap events).countP Event.isTxn) s) :
    (List.range s.numBoards).foldl f s = (s.heard (s.boards.flatMap events)).withBoards (s.boards.map g) := by
  refine (foldl_boards_induction (f := f) (g := g) (s := s)
    (Q := fun k u => u = (s.heard ((s.boards.take k).flatMap events)).withBoards u.boards) ?_ ?_).elim
      fun hboards hheard => ?_
  · rw [List.take_zero, List.flatMap_nil, heard_nil]
    rfl
  · intro k u hk hsize hread hu
    have hself : s.boards[k] = s.board k := (List.getD_eq_getElem _ _ hk).symm
    have htake : (s.boards.take (k + 1)).flatMap events =
        (s.boards.take k).flatMap events ++ events (u.board k) := by
      rw [List.take_succ_eq_append_getElem hk, List.flatMap_append, hself, hread, List.flatMap_singleton]
    have hsplit : s.boards.flatMap events =
        (s.boards.take (k + 1)).flatMap events ++ (s.boards.drop (k + 1)).flatMap events := by
      rw [← List.flatMap_append, List.take_append_drop]
    rw [hsplit, htake] at hok
    obtain ⟨hfirst, -⟩ := hok.split
    obtain ⟨-, hnow⟩ := hfirst.split
    have hanswers : AnswersOk ((events (u.board k)).countP Event.isTxn) u := by
      rw [AnswersOk, congrArg State.busAnswers hu]
      exact hnow
    have hf := hturn u k (hsize ▸ hk) (congrArg State.params hu :) (congrArg State.freeIndex hu :) hanswers
    refine ⟨congrArg State.boards hf, ?_⟩
    rw [hf, htake, heard_append]
    conv => lhs; rw [hu]
    rfl
  · rw [hheard, hboards, State.numBoards, List.take_length]

/-! ### The turn of one board -/

/-- A board after its turn in a flush: the mask of a valid one is cleared (43_aal.md R292). -/
def Board.flushed (bd : Board) : Board := if bd.valid then { bd with dirty := 0#16 } else bd

/-- A board with nothing to send is left as it is. -/
theorem Board.flushed_of_idle {bd : Board} (h : ¬(bd.valid && bd.dirty != 0#16)) : bd.flushed = bd := by
  unfold Board.flushed
  split
  · rename_i hvalid
    have hclean : bd.dirty = 0#16 := by simpa [hvalid] using h
    rw [← hclean]
  · rfl

/-- A board with something to send has its mask cleared. -/
theorem Board.flushed_of_pending {bd : Board} (h : bd.valid && bd.dirty != 0#16) :
    bd.flushed = { bd with dirty := 0#16 } :=
  if_pos (Bool.and_eq_true_iff.1 h).1

/-- Writing a board back changes nothing. -/
theorem setBoard_self (s : State) (b : ℕ) : s.setBoard b (s.board b) = s := by
  have h := map_setBoard id s b (x := s.board b) rfl
  rw [List.map_id, List.map_id] at h
  rw [State.setBoard, ← State.setBoard_boards, h]

/-- The turn of a board with nothing to send (43_aal.md R292). -/
theorem flushBoard_of_idle {s : State} {b : ℕ} (op : Byte) (h : ¬((s.board b).valid && (s.board b).dirty != 0#16)) :
    s.flushBoard op b = s :=
  if_neg h

/-- The turn of a board with something to send (43_aal.md R292). -/
theorem flushBoard_of_pending {s : State} {b : ℕ} (op : Byte) (h : (s.board b).valid && (s.board b).dirty != 0#16) :
    s.flushBoard op b =
      (s.boardWrite b (flushFrame s.params s.freeIndex (s.board b)) op).2.setBoard b (s.board b).flushed := by
  refine (if_pos h).trans ?_
  rw [(boardWrite_effect ..).board, Board.flushed_of_pending h]

/-- Whatever the bus answers, the turn of board b flushes board b and leaves the others (43_aal.md R292, R294). -/
theorem flushBoard_flushed (s : State) (b : ℕ) (op : Byte) :
    (s.flushBoard op b).boards = s.boards.set b (s.board b).flushed := by
  by_cases h : (s.board b).valid && (s.board b).dirty != 0#16
  · rw [flushBoard_of_pending op h, State.setBoard_boards, (boardWrite_effect ..).boards]
  · rw [flushBoard_of_idle op h, Board.flushed_of_idle h, ← State.setBoard_boards, setBoard_self]

/-- The turn of a board where the bus answers with success (43_aal.md R292). -/
theorem flushBoard_of_ok {s : State} {b : ℕ} (op : Byte)
    (hok : AnswersOk ((flushOk s.params s.freeIndex (s.board b)).countP Event.isTxn) s) :
    s.flushBoard op b =
      (s.heard (flushOk s.params s.freeIndex (s.board b))).setBoard b (s.board b).flushed := by
  by_cases h : (s.board b).valid && (s.board b).dirty != 0#16
  · have hframe : flushOk s.params s.freeIndex (s.board b) =
        bracketOk s.params (s.board b) .write (flushFrame s.params s.freeIndex (s.board b)) := if_pos h
    rw [hframe, countP_bracketOk] at hok
    rw [flushBoard_of_pending op h, boardWrite_run hok.1, afterRun_boardRun_of_ok hok, hframe]
  · have hnone : flushOk s.params s.freeIndex (s.board b) = [] := if_neg h
    rw [flushBoard_of_idle op h, hnone, heard_nil, Board.flushed_of_idle h, setBoard_self]

/-- The turn of a board is the run of its frame, for every answer (43_aal.md R292, R294). -/
theorem flushBoard_run {s : State} {b : ℕ} (hlength : 3 ≤ s.busAnswers.length) (op : Byte) :
    s.flushBoard op b = (s.afterFrames op b [s.board b]).setBoard b (s.board b).flushed := by
  have hseg := segCount_le_one (s.board b)
  rw [State.afterFrames, State.afterFrames]
  by_cases h : (s.board b).valid && (s.board b).dirty != 0#16
  · rw [flushBoard_of_pending op h, boardWrite_run (by omega), if_pos h]
  · rw [flushBoard_of_idle op h, if_neg h, Board.flushed_of_idle h, setBoard_self]

theorem askBus_trace (s : State) : s.askBus.2.trace = s.trace := by
  unfold State.askBus
  split <;> rfl

/-- A transaction puts its event on the trace, before any record (44_bus.md R340, R356). -/
theorem recordTxn_trace (s : State) (k : TxnKind) (a : BusAddr) (out : List Byte) (n : ℕ) (st : BusStatus)
    (bs : List Byte) (i op : Byte) :
    s.trace ++ [.txn k a out n st bs] <+: (s.recordTxn k a out n st bs i op).trace := by
  unfold State.recordTxn
  split
  · exact List.prefix_refl _
  · exact List.prefix_append _ _

/-- The turn of a root board with something to send puts its frame on the trace (43_aal.md R294). -/
theorem flushBoard_trace_of_root {s : State} {b : ℕ} (op : Byte) (hroot : (s.board b).cluster = none)
    (h : (s.board b).valid && (s.board b).dirty != 0#16) :
    ∃ st, s.trace ++ [.txn .write (s.board b).addr (flushFrame s.params s.freeIndex (s.board b)) 0 st []] <+:
      (s.flushBoard op b).trace := by
  refine ⟨s.askBus.1.status, ?_⟩
  rw [flushBoard_of_pending op h, State.setBoard_trace, State.boardWrite, bracketed_root hroot, State.busWrite,
    ← askBus_trace s]
  exact recordTxn_trace ..

/-! ### Frames one after another -/

theorem afterFrames_withBoards (op : Byte) (b : ℕ) (l bs : List Board) (s : State) :
    (s.withBoards bs).afterFrames op b l = (s.afterFrames op b l).withBoards bs := by
  induction l generalizing s b with
  | nil => rfl
  | cons bd rest ih =>
    rw [State.afterFrames, State.afterFrames, afterRun_withBoards, ← ih]
    exact congrArg _ (apply_ite (State.withBoards bs) _ _ _).symm

theorem afterFrames_append (op : Byte) (b : ℕ) (l m : List Board) (s : State) :
    s.afterFrames op b (l ++ m) = (s.afterFrames op b l).afterFrames op (b + l.length) m := by
  induction l generalizing s b with
  | nil => rfl
  | cons bd rest ih =>
    rw [List.cons_append, State.afterFrames, State.afterFrames, ih, List.length_cons, Nat.add_assoc,
      Nat.add_comm 1]

/-- A frame takes at most three answers. -/
theorem afterFrames_answers (op : Byte) (b : ℕ) (l : List Board) (s : State) :
    s.busAnswers.length ≤ (s.afterFrames op b l).busAnswers.length + 3 * l.length := by
  induction l generalizing s b with
  | nil => exact le_rfl
  | cons bd rest ih =>
    rw [State.afterFrames, List.length_cons]
    split
    · have hframe := boardRun_rest_length s.params bd .write (flushFrame s.params s.freeIndex bd) s.busAnswers
      have hrest := ih (b + 1) (s.afterRun (BitVec.ofNat 8 b) op
        (boardRun s.params bd .write (flushFrame s.params s.freeIndex bd) s.busAnswers))
      rw [afterRun_busAnswers] at hrest
      omega
    · have hrest := ih (b + 1) s
      omega

/-! ### The command -/

/-- The frame of a board that is no ADC board does not depend on the free values (43_aal.md R293; log 11). -/
theorem flushFrame_of_not_adc {bd : Board} (h : bd.family ≠ .adc) (p : Params) (n m : ℕ) :
    flushFrame p n bd = flushFrame p m bd := by
  unfold flushFrame
  cases hf : bd.family
  case adc => exact absurd hf h
  all_goals rfl

/-- A flush for every answer of the bus: the runs of the boards' frames, and the boards flushed (43_aal.md R294). -/
theorem flushAll_run {s : State} (hlength : 3 * s.numBoards ≤ s.busAnswers.length) (op : Byte) :
    s.flushAll op = (s.afterFrames op 0 s.boards).withBoards (s.boards.map Board.flushed) := by
  refine (foldl_boards_induction (f := State.flushBoard op) (g := Board.flushed) (s := s)
    (Q := fun k u => u = (s.afterFrames op 0 (s.boards.take k)).withBoards u.boards) rfl ?_).elim
      fun hboards hframes => ?_
  · intro k u hk _ hread hu
    have hself : s.boards[k] = s.board k := (List.getD_eq_getElem _ _ hk).symm
    have htaken : (s.boards.take k).length = k := List.length_take_of_le hk.le
    have hleft := afterFrames_answers op 0 (s.boards.take k) s
    have hanswers : u.busAnswers = (s.afterFrames op 0 (s.boards.take k)).busAnswers := (congrArg State.busAnswers hu :)
    have hframe : u.afterFrames op k [s.board k] =
        (s.afterFrames op 0 (s.boards.take (k + 1))).withBoards u.boards := by
      rw [List.take_succ_eq_append_getElem hk, afterFrames_append, Nat.zero_add, htaken, hself]
      conv => lhs; rw [hu, afterFrames_withBoards]
    refine ⟨flushBoard_flushed u k op, ?_⟩
    rw [flushBoard_run (by rw [hanswers]; omega), hread, hframe]
    rfl
  · rw [State.flushAll, hframes, hboards, State.numBoards, List.take_length]

/-- Settles O43: turn by turn the boards are flushed, and a flush is a bus effect beside them. -/
theorem flushClearsEveryValidBoard : Obligations.FlushClearsEveryValidBoard := by
  intro s
  obtain ⟨hboards, -⟩ := foldl_boards_induction (f := State.flushBoard 0x13#8) (s := s) (Q := fun _ _ => True) trivial
    (fun k u _ _ _ _ => ⟨flushBoard_flushed u k 0x13#8, trivial⟩)
  exact ⟨_, rfl, hboards, flushAll_effect s 0x13#8⟩

/-- Settles O44: each turn issues the frame of a board with something to send, and the scan all of them in order. -/
theorem flushSendsOneFramePerDirtyBoard : Obligations.FlushSendsOneFramePerDirtyBoard := by
  intro s hok
  refine congrArg Host.Outcome.next (foldl_heard (g := Board.flushed) (fun u k _ hparams hfree hturn => ?_) hok)
  rw [← hparams, ← hfree] at hturn ⊢
  exact flushBoard_of_ok 0x13#8 hturn

/-- An event put on the trace stays there. -/
theorem mem_drop_of_prefix {l m : List Event} {n : ℕ} {e : Event} (h : e ∈ l.drop n) (hlm : l <+: m) :
    e ∈ m.drop n :=
  (hlm.drop n).subset h

/-- The write of board b's frame with its status, where b is a root board and no ADC board (43_aal.md R293). -/
def State.frameWrite (s : State) (b : ℕ) (st : BusStatus) : Event :=
  .txn .write (s.board b).addr (flushFrame s.params 0 (s.board b)) 0 st []

/-- u is s after k turns of a flush, as far as the frame of board b goes. -/
structure FrameAfterTurns (s : State) (b k : ℕ) (u : State) : Prop where
  params : u.params = s.params
  trace : s.trace <+: u.trace
  written : b < k → ∃ st, s.frameWrite b st ∈ u.trace.drop s.trace.length

/-- A dirty valid root board gets its frame written in a flush, whatever the bus answered before (43_aal.md R294). -/
theorem flushAll_trace_of_root {s : State} {b : ℕ} (op : Byte) (hb : b < s.numBoards)
    (hroot : (s.board b).cluster = none) (h : (s.board b).valid && (s.board b).dirty != 0#16)
    (hadc : (s.board b).family ≠ .adc) :
    ∃ st, s.frameWrite b st ∈ (s.flushAll op).trace.drop s.trace.length := by
  refine (foldl_boards_induction (f := State.flushBoard op) (g := Board.flushed) (s := s)
    (Q := FrameAfterTurns s b) ?_ ?_).elim fun _ hturns => hturns.written hb
  · exact ⟨rfl, List.prefix_refl _, fun hneg => absurd hneg (Nat.not_lt_zero b)⟩
  · intro k u _ _ hread hu
    have hturn := flushBoard_effect u k op
    refine ⟨flushBoard_flushed u k op, hturn.params.trans hu.params, hu.trace.trans hturn.trace, fun hbk => ?_⟩
    rcases Nat.lt_succ_iff_lt_or_eq.1 hbk with hbefore | rfl
    · obtain ⟨st, hmem⟩ := hu.written hbefore
      exact ⟨st, mem_drop_of_prefix hmem hturn.trace⟩
    · obtain ⟨st, hframe⟩ := flushBoard_trace_of_root (s := u) (b := b) op (by rwa [hread]) (by rwa [hread])
      rw [hread, hu.params, flushFrame_of_not_adc hadc _ _ 0] at hframe
      obtain ⟨es, hes⟩ := hu.trace
      refine ⟨st, mem_drop_of_prefix ?_ hframe⟩
      rw [← hes, List.append_assoc, List.drop_left]
      exact List.mem_append_right _ (List.mem_singleton_self _)

/-- Settles O45: a root board's turn writes its frame, and the scan is the run of the frames. -/
theorem flushIsolatesFailures : Obligations.FlushIsolatesFailures := by
  refine ⟨fun s t b hexec hb hroot hvalid hdirty hadc => ?_, fun s hlength => congrArg _ (flushAll_run hlength _)⟩
  obtain rfl : s.flushAll 0x13#8 = t := Host.Outcome.next.inj hexec
  exact flushAll_trace_of_root 0x13#8 hb hroot (by simp [hvalid, hdirty]) hadc

end Sys2Proof.Machine
end

section
/-! Board descriptors (30_encoding.md R151 to R154): which end the configuration table, which are well-formed, and the
board a well-formed one describes. -/

namespace Sys2Proof.Machine

open Sys2Proof.Config

/-! ### The fields -/

/-- A terminator has CLUSTER = -1 and its three counts 0 (30_encoding.md R153). -/
theorem isTerminator_iff (d : Descriptor) : d.isTerminator = true ↔ d.Ends := by
  have hcounts : d.w1.extractLsb' 0 24 = 0#24 ↔ d.nAo = 0#8 ∧ d.nAi = 0#8 ∧ d.nDo = 0#8 := by
    simp only [Descriptor.nAo, Descriptor.nAi, Descriptor.nDo, ← BitVec.toNat_inj, BitVec.extractLsb'_toNat,
      Nat.shiftRight_eq_div_pow, BitVec.toNat_ofNat]
    omega
  simp only [Descriptor.isTerminator, Descriptor.Ends, hcounts, Bool.and_eq_true, beq_iff_eq, and_assoc]
  rfl

/-- A legal CLUSTER is -1 or a cluster, and reads back as its byte (30_encoding.md R154 (a)). -/
theorem clusterOf_eq_some {c : Byte} {cluster : Option (BitVec 3)} (h : clusterOf c = some cluster) :
    clusterByte cluster = c ∧ (c = 0xFF#8 ∨ c.toNat < 8) ∧ (cluster = none ↔ c = 0xFF#8) := by
  unfold clusterOf at h
  split_ifs at h with hnone hlow <;> cases h
  · exact ⟨hnone.symm, .inl hnone, iff_of_true rfl hnone⟩
  · refine ⟨BitVec.eq_of_toNat_eq ?_, .inr hlow, iff_of_false nofun hnone⟩
    simp only [clusterByte, BitVec.toNat_setWidth]
    unfold maxClusters at hlow
    omega

/-- Every legal CLUSTER byte is taken (30_encoding.md R154 (a)). -/
theorem clusterOf_of_legal {c : Byte} (h : c = 0xFF#8 ∨ c.toNat < 8) : ∃ cluster, clusterOf c = some cluster := by
  unfold clusterOf
  split_ifs with hnone hlow
  · exact ⟨_, rfl⟩
  · exact ⟨_, rfl⟩
  · exact absurd h (not_or.2 ⟨hnone, hlow⟩)

/-- FAMILY and its code (30_encoding.md R151). -/
theorem familyOf_eq_some_iff (x : BitVec 3) (f : Family) : familyOf x = some f ↔ familyCode f = x := by
  revert x
  cases f <;> decide

/-- A capability fits the families that 30_encoding.md R154 (f) names. -/
theorem familyFits_iff (k : Kind) (f : Family) :
    familyFits k f = true ↔
      (k = .ao → familyCode f = 0#3 ∨ familyCode f = 1#3) ∧ (k = .ai → familyCode f = 2#3) ∧
        (k = .do_ → familyCode f = 3#3) := by
  cases k <;> cases f <;> decide

/-- The reserved fields of a descriptor, bit by bit (30_encoding.md R154 (c)). -/
theorem reservedZero_iff (d : Descriptor) :
    d.reservedZero = true ↔
      d.w0.getLsbD 11 = false ∧ d.w0.getLsbD 19 = false ∧ d.w0.extractLsb' 23 9 = 0#9 ∧
        d.w1.extractLsb' 24 8 = 0#8 := by
  have hone : ∀ x : BitVec 1, x = 0#1 ↔ x.getLsbD 0 = false := by decide
  have hbit (k : ℕ) : d.w0.extractLsb' k 1 = 0#1 ↔ d.w0.getLsbD k = false := by
    rw [hone, BitVec.getLsbD_extractLsb']
    simp
  simp only [Descriptor.reservedZero, Bool.and_eq_true, beq_iff_eq, hbit, and_assoc]

/-! ### The capability -/

/-- Just one count is not 0 (30_encoding.md R154 (d)). -/
def Descriptor.OneCount (d : Descriptor) : Prop :=
  (d.nAo ≠ 0#8 ∧ d.nAi = 0#8 ∧ d.nDo = 0#8) ∨ (d.nAo = 0#8 ∧ d.nAi ≠ 0#8 ∧ d.nDo = 0#8) ∨
    (d.nAo = 0#8 ∧ d.nAi = 0#8 ∧ d.nDo ≠ 0#8)

/-- n is the one count of a descriptor that is not 0, and k the capability it is of (30_encoding.md R154 (d)). -/
structure Descriptor.Counts (d : Descriptor) (n : Byte) (k : Kind) : Prop where
  oneCount : d.OneCount
  total : n.toNat = d.nAo.toNat + d.nAi.toNat + d.nDo.toNat
  ao : k = .ao ↔ d.nAo ≠ 0#8
  ai : k = .ai ↔ d.nAi ≠ 0#8
  do_ : k = .do_ ↔ d.nDo ≠ 0#8

/-- The capability of a descriptor is of its one count. -/
theorem counts_of_capability {d : Descriptor} {n : Byte} {k : Kind} (h : d.capability = some (n, k)) :
    d.Counts n k := by
  unfold Descriptor.capability at h
  split at h <;> cases h
  next hao hai hdo =>
    obtain ⟨hao, hai, hdo⟩ : d.nAo ≠ 0#8 ∧ d.nAi = 0#8 ∧ d.nDo = 0#8 := by simp_all
    exact ⟨.inl ⟨hao, hai, hdo⟩, by simp [hai, hdo], by simp [hao], by simp [hai], by simp [hdo]⟩
  next hao hai hdo =>
    obtain ⟨hao, hai, hdo⟩ : d.nAo = 0#8 ∧ d.nAi ≠ 0#8 ∧ d.nDo = 0#8 := by simp_all
    exact ⟨.inr (.inl ⟨hao, hai, hdo⟩), by simp [hao, hdo], by simp [hao], by simp [hai], by simp [hdo]⟩
  next hao hai hdo =>
    obtain ⟨hao, hai, hdo⟩ : d.nAo = 0#8 ∧ d.nAi = 0#8 ∧ d.nDo ≠ 0#8 := by simp_all
    exact ⟨.inr (.inr ⟨hao, hai, hdo⟩), by simp [hao, hai], by simp [hao], by simp [hai], by simp [hdo]⟩

/-- A descriptor with one count has a capability. -/
theorem capability_of_oneCount {d : Descriptor} (h : d.OneCount) : ∃ n k, d.capability = some (n, k) := by
  unfold Descriptor.capability
  rcases h with ⟨hao, hai, hdo⟩ | ⟨hao, hai, hdo⟩ | ⟨hao, hai, hdo⟩
  · exact ⟨d.nAo, .ao, by rw [bne_iff_ne.2 hao, hai, hdo]; rfl⟩
  · exact ⟨d.nAi, .ai, by rw [hao, bne_iff_ne.2 hai, hdo]; rfl⟩
  · exact ⟨d.nDo, .do_, by rw [hao, hai, bne_iff_ne.2 hdo]; rfl⟩

/-- The one count is in a range where all three are. -/
theorem Descriptor.Counts.le_iff {d : Descriptor} {n : Byte} {k : Kind} (h : d.Counts n k) (m : ℕ) :
    n.toNat ≤ m ↔ d.nAo.toNat ≤ m ∧ d.nAi.toNat ≤ m ∧ d.nDo.toNat ≤ m := by
  have htotal := h.total
  rcases h.oneCount with ⟨-, hai, hdo⟩ | ⟨hao, -, hdo⟩ | ⟨hao, hai, -⟩
  · simp only [hai, hdo, BitVec.toNat_ofNat] at htotal ⊢
    omega
  · simp only [hao, hdo, BitVec.toNat_ofNat] at htotal ⊢
    omega
  · simp only [hao, hai, BitVec.toNat_ofNat] at htotal ⊢
    omega

/-! ### The board a descriptor describes -/

/-- The checks of 30_encoding.md R154 on a descriptor's fields, once they are legal one by one. -/
structure Descriptor.Checked (d : Descriptor) (cluster : Option (BitVec 3)) (family : Family) (n : Byte)
    (kind : Kind) : Prop where
  clusterOf_eq : clusterOf d.cluster = some cluster
  familyOf_eq : familyOf d.familyField = some family
  capability_eq : d.capability = some (n, kind)
  slice : cluster = none → d.slice = 0#3
  reserved : d.reservedZero = true
  range : n.toNat ≤ maxCh
  adcRange : family = .adc → n.toNat ≤ adcMaxCh
  fits : familyFits kind family = true

/-- The board of legal fields, freshly built (43_aal.md R281). -/
def Descriptor.built (d : Descriptor) (cluster : Option (BitVec 3)) (family : Family) (n : Byte) (kind : Kind) :
    Board where
  cluster := cluster
  slice := d.slice
  addr := d.addr
  family := family
  valid := false
  dirty := 0#16
  nch := n.setWidth 5
  kind := kind
  buf := List.replicate maxCh 0#16

/-- A descriptor describes a board where its fields pass the checks. -/
theorem board?_eq_some_iff {d : Descriptor} {bd : Board} :
    d.board? = some bd ↔
      ∃ cluster family n kind, d.Checked cluster family n kind ∧ bd = d.built cluster family n kind := by
  unfold Descriptor.board?
  constructor
  · intro h
    split at h
    next cluster family n kind hcluster hfamily hcapability =>
      split at h <;> cases h
      next hchecks =>
        simp only [Bool.and_eq_true, Bool.or_eq_true, decide_eq_true_eq, bne_iff_ne, beq_iff_eq] at hchecks
        obtain ⟨⟨⟨⟨hslice, hreserved⟩, hrange⟩, hadc⟩, hfits⟩ := hchecks
        refine ⟨cluster, family, n, kind, ⟨hcluster, hfamily, hcapability, ?_, hreserved, hrange, ?_, hfits⟩, rfl⟩
        · rintro rfl
          simpa using hslice
        · exact fun hf => hadc.resolve_left (not_not.2 hf)
    next => cases h
  · rintro ⟨cluster, family, n, kind, h, rfl⟩
    rw [h.clusterOf_eq, h.familyOf_eq, h.capability_eq]
    refine if_pos ?_
    simp only [Bool.and_eq_true, Bool.or_eq_true, decide_eq_true_eq, bne_iff_ne, beq_iff_eq]
    refine ⟨⟨⟨⟨?_, h.reserved⟩, h.range⟩, ?_⟩, h.fits⟩
    · cases cluster with
      | none => exact .inr (h.slice rfl)
      | some c => exact .inl rfl
    · exact (em (family = .adc)).symm.imp id h.adcRange

/-- A descriptor that describes a board is well-formed (30_encoding.md R154). -/
theorem Descriptor.Checked.wellFormed {d : Descriptor} {cluster : Option (BitVec 3)} {family : Family} {n : Byte}
    {kind : Kind} (h : d.Checked cluster family n kind) : d.WellFormed := by
  obtain ⟨-, hlegal, hnone⟩ := clusterOf_eq_some h.clusterOf_eq
  have hfamily := (familyOf_eq_some_iff _ _).1 h.familyOf_eq
  have hcounts := counts_of_capability h.capability_eq
  obtain ⟨hao, hai, hdo⟩ := (hcounts.le_iff 16).1 h.range
  obtain ⟨hfitAo, hfitAi, hfitDo⟩ := (familyFits_iff _ _).1 h.fits
  rw [hfamily] at hfitAo hfitAi hfitDo
  exact
    { cluster := hlegal
      slice := fun hc => h.slice (hnone.2 hc)
      reserved := (reservedZero_iff d).1 h.reserved
      oneCount := hcounts.oneCount
      range := ⟨hao, hai, hdo, fun hadc => (hcounts.le_iff 4).1
        (h.adcRange (Option.some.inj (h.familyOf_eq.symm.trans (congrArg familyOf hadc))))⟩
      family := ⟨fun h0 => hfitAo (hcounts.ao.2 h0), fun h0 => hfitAi (hcounts.ai.2 h0),
        fun h0 => hfitDo (hcounts.do_.2 h0)⟩ }

/-- A well-formed descriptor passes the checks (30_encoding.md R154). -/
theorem checked_of_wellFormed {d : Descriptor} (h : d.WellFormed) :
    ∃ cluster family n kind, d.Checked cluster family n kind := by
  obtain ⟨cluster, hcluster⟩ := clusterOf_of_legal h.cluster
  obtain ⟨n, kind, hcapability⟩ := capability_of_oneCount h.oneCount
  have hcounts := counts_of_capability hcapability
  obtain ⟨-, -, hnone⟩ := clusterOf_eq_some hcluster
  obtain ⟨hao, hai, hdo, hadc⟩ := h.range
  obtain ⟨hfamAo, hfamAi, hfamDo⟩ := h.family
  obtain ⟨family, hfamily⟩ : ∃ family, familyCode family = d.familyField := by
    rcases h.oneCount with ⟨h0, -, -⟩ | ⟨-, h0, -⟩ | ⟨-, -, h0⟩
    · exact (hfamAo h0).elim (fun e => ⟨.dacSel, e.symm⟩) (fun e => ⟨.dacFull, e.symm⟩)
    · exact ⟨.adc, (hfamAi h0).symm⟩
    · exact ⟨.gpio, (hfamDo h0).symm⟩
  refine ⟨cluster, family, n, kind,
    { clusterOf_eq := hcluster
      familyOf_eq := (familyOf_eq_some_iff _ _).2 hfamily
      capability_eq := hcapability
      slice := fun hc => h.slice (hnone.1 hc)
      reserved := (reservedZero_iff d).2 h.reserved
      range := (hcounts.le_iff 16).2 ⟨hao, hai, hdo⟩
      adcRange := ?_
      fits := (familyFits_iff _ _).2 ?_ }⟩
  · rintro rfl
    exact (hcounts.le_iff 4).2 (hadc hfamily.symm)
  · rw [hfamily]
    exact ⟨fun hk => hfamAo (hcounts.ao.1 hk), fun hk => hfamAi (hcounts.ai.1 hk), fun hk => hfamDo (hcounts.do_.1 hk)⟩

/-- The descriptors that describe a board are the well-formed ones. -/
theorem wellFormed_iff_board? (d : Descriptor) : d.WellFormed ↔ ∃ bd, d.board? = some bd := by
  constructor
  · intro h
    obtain ⟨cluster, family, n, kind, hchecked⟩ := checked_of_wellFormed h
    exact ⟨_, board?_eq_some_iff.2 ⟨cluster, family, n, kind, hchecked, rfl⟩⟩
  · rintro ⟨bd, h⟩
    obtain ⟨cluster, family, n, kind, hchecked, -⟩ := board?_eq_some_iff.1 h
    exact hchecked.wellFormed

/-- bd stands where d says and has the channels d says, with no pending value (43_aal.md R281). -/
structure Descriptor.Describes (d : Descriptor) (bd : Board) : Prop where
  cluster : clusterByte bd.cluster = d.w0.extractLsb' 0 8
  slice : bd.slice = d.w0.extractLsb' 8 3
  addr : bd.addr = d.w0.extractLsb' 12 7
  family : familyCode bd.family = d.w0.extractLsb' 20 3
  channels : bd.nch.toNat = d.nAo.toNat + d.nAi.toNat + d.nDo.toNat
  ao : bd.kind = .ao ↔ d.nAo ≠ 0#8
  ai : bd.kind = .ai ↔ d.nAi ≠ 0#8
  do_ : bd.kind = .do_ ↔ d.nDo ≠ 0#8
  dirty : bd.dirty = 0#16
  buf : bd.buf = List.replicate 16 0#16

/-- The board BEGIN builds of a descriptor is the one it describes (43_aal.md R281). -/
theorem describes_of_board? {d : Descriptor} {bd : Board} (h : d.board? = some bd) : d.Describes bd := by
  obtain ⟨cluster, family, n, kind, hchecked, rfl⟩ := board?_eq_some_iff.1 h
  obtain ⟨hbyte, -⟩ := clusterOf_eq_some hchecked.clusterOf_eq
  have hcounts := counts_of_capability hchecked.capability_eq
  have hrange : n.toNat ≤ 16 := hchecked.range
  have hnch : (n.setWidth 5).toNat = n.toNat := by
    rw [BitVec.toNat_setWidth, Nat.mod_eq_of_lt (by omega)]
  exact
    { cluster := hbyte
      slice := rfl
      addr := rfl
      family := (familyOf_eq_some_iff _ _).1 hchecked.familyOf_eq
      channels := hnch.trans hcounts.total
      ao := hcounts.ao
      ai := hcounts.ai
      do_ := hcounts.do_
      dirty := rfl
      buf := rfl }

end Sys2Proof.Machine
end

section
/-! BEGIN (43_aal.md R280 to R288): the configuration table, the boards and devices built of it, what a bad table or a
second BEGIN records, and the bus phase. -/

namespace Sys2Proof.Machine

open Sys2Proof.Config

/-! ### The configuration table -/

/-- A descriptor below the table's size is the table's entry. -/
theorem getElem?_table {s : State} {j : ℕ} (hj : j < s.table.length) : s.table[j]? = some (s.descriptor j) := by
  rw [State.descriptor, List.getD_eq_getElem _ _ hj, List.getElem?_eq_getElem hj]

/-- The configuration table is the descriptors before the first terminator (30_encoding.md R153). -/
theorem configTable_eq_take {s : State} {n : ℕ} (h : s.TableLength n) : configTable s.table = s.table.take n := by
  obtain ⟨hn, hbefore, hat⟩ := h
  have hends (j : ℕ) (hj : j < s.table.length) : s.table[j].isTerminator = true ↔ (s.descriptor j).Ends := by
    have hentry := getElem?_table hj
    rw [List.getElem?_eq_getElem hj, Option.some.injEq] at hentry
    rw [isTerminator_iff, hentry]
  have htaken : ∀ d ∈ s.table.take n, (!d.isTerminator) = true := fun d hd => by
    obtain ⟨j, hj, rfl⟩ := List.mem_take_iff_getElem.1 hd
    rw [Bool.not_eq_true', Bool.eq_false_iff, ne_eq, hends]
    exact hbefore j (by omega)
  have hrest : (s.table.drop n).takeWhile (fun d => !d.isTerminator) = [] := by
    rcases hn.eq_or_lt with rfl | hlt
    · rw [List.drop_length, List.takeWhile_nil]
    · rw [List.drop_eq_getElem_cons hlt, List.takeWhile_cons_of_neg]
      rw [Bool.not_eq_true', Bool.not_eq_false, hends]
      exact hat.resolve_left hlt.ne
  have hsplit := List.takeWhile_append_of_pos (l₂ := s.table.drop n) htaken
  rwa [List.take_append_drop, hrest, List.append_nil] at hsplit

/-- Entry j of the configuration table. -/
theorem getElem?_configTable {s : State} {n : ℕ} (h : s.TableLength n) {j : ℕ} (hj : j < n) :
    (configTable s.table)[j]? = some (s.descriptor j) := by
  rw [configTable_eq_take h, List.getElem?_take_of_lt hj, getElem?_table (hj.trans_le h.1)]

theorem length_configTable {s : State} {n : ℕ} (h : s.TableLength n) : (configTable s.table).length = n := by
  rw [configTable_eq_take h, List.length_take_of_le h.1]

/-! ### The boards built -/

/-- BEGIN builds a board of every descriptor, or stops at the first that describes none (43_aal.md R280, R282). -/
theorem buildBoards_cases (i : ℕ) (ds : List Descriptor) :
    (∃ bs, buildBoards i ds = .ok bs ∧ ds.map Descriptor.board? = bs.map some) ∨
    ∃ k d, buildBoards i ds = .error (i + k) ∧ ds[k]? = some d ∧ d.board? = none ∧
      ∀ j < k, ∃ d' bd, ds[j]? = some d' ∧ d'.board? = some bd := by
  induction ds generalizing i with
  | nil => exact .inl ⟨[], rfl, rfl⟩
  | cons d rest ih =>
    unfold buildBoards
    cases hd : d.board? with
    | none => exact .inr ⟨0, d, rfl, rfl, hd, fun j hj => absurd hj (Nat.not_lt_zero j)⟩
    | some bd =>
      rcases ih (i + 1) with ⟨bs, hok, hmap⟩ | ⟨k, d', herror, hk, hnone, hbefore⟩
      · refine .inl ⟨bd :: bs, ?_, ?_⟩
        · rw [hok]
        · rw [List.map_cons, List.map_cons, hd, hmap]
      · refine .inr ⟨k + 1, d', ?_, hk, hnone, fun j hj => ?_⟩
        · rw [herror, Nat.add_assoc, Nat.add_comm 1]
        · cases j with
          | zero => exact ⟨d, bd, rfl, hd⟩
          | succ j => exact hbefore j (Nat.lt_of_succ_lt_succ hj)

/-- A table whose descriptors are all well-formed is built. -/
theorem buildBoards_of_wellFormed {s : State} {n : ℕ} (h : s.TableLength n)
    (hwell : ∀ j < n, (s.descriptor j).WellFormed) :
    ∃ boards, buildBoards 0 (configTable s.table) = .ok boards ∧ boards.length = n ∧
      ∀ j < n, ∃ bd, boards[j]? = some bd ∧ (s.descriptor j).Describes bd := by
  rcases buildBoards_cases 0 (configTable s.table) with ⟨boards, hok, hmap⟩ | ⟨k, d, -, hk, hnone, -⟩
  · have hlength : boards.length = n := by
      simpa [length_configTable h] using (congrArg List.length hmap).symm
    refine ⟨boards, hok, hlength, fun j hj => ?_⟩
    have hlt : j < boards.length := hlength.symm ▸ hj
    have hentry := congrArg (·[j]?) hmap
    simp only [List.getElem?_map, getElem?_configTable h hj, List.getElem?_eq_getElem hlt, Option.map_some,
      Option.some.injEq] at hentry
    exact ⟨boards[j], List.getElem?_eq_getElem hlt, describes_of_board? hentry⟩
  · have hlt : k < n := by
      rw [← length_configTable h]
      exact (List.getElem?_eq_some_iff.1 hk).1
    rw [getElem?_configTable h hlt, Option.some.injEq] at hk
    obtain ⟨bd, hbd⟩ := (wellFormed_iff_board? _).1 (hwell k hlt)
    rw [hk, hnone] at hbd
    cases hbd

/-- A table with a malformed descriptor is stopped at the first one (43_aal.md R282). -/
theorem buildBoards_of_malformed {s : State} {n : ℕ} (h : s.TableLength n) {i : ℕ} (hi : i < n)
    (hbad : ¬(s.descriptor i).WellFormed) :
    ∃ k, buildBoards 0 (configTable s.table) = .error k ∧
      ((∀ j < i, (s.descriptor j).WellFormed) → k = i) := by
  have hdescribes {j : ℕ} (hj : j < n) :
      (s.descriptor j).WellFormed ↔ ∃ d bd, (configTable s.table)[j]? = some d ∧ d.board? = some bd := by
    rw [wellFormed_iff_board?, getElem?_configTable h hj]
    simp
  rcases buildBoards_cases 0 (configTable s.table) with ⟨boards, -, hmap⟩ | ⟨k, d, herror, hk, hnone, hbefore⟩
  · have hentry := congrArg (·[i]?) hmap
    simp only [List.getElem?_map, getElem?_configTable h hi, Option.map_some] at hentry
    obtain ⟨bd, -, hbd⟩ := Option.map_eq_some_iff.1 hentry.symm
    exact absurd ((wellFormed_iff_board? _).2 ⟨bd, hbd.symm⟩) hbad
  · rw [Nat.zero_add] at herror
    refine ⟨k, herror, fun hgood => ?_⟩
    have hlt : k < n := by
      rw [← length_configTable h]
      exact (List.getElem?_eq_some_iff.1 hk).1
    rcases lt_trichotomy k i with hki | hki | hik
    · obtain ⟨d', bd, hd', hbd⟩ := (hdescribes hlt).1 (hgood k hki)
      rw [hk, Option.some.injEq] at hd'
      rw [← hd', hnone] at hbd
      cases hbd
    · exact hki
    · exact absurd ((hdescribes hi).2 (hbefore i hik)) hbad

/-! ### Outcomes -/

/-- The record of ConfigurationEmpty (60_exceptions.md R372, R373). -/
theorem beginFailed_empty (s : State) :
    s.beginFailed .configurationEmpty 0#8 =
      { s with beginResult := 0xFFFFFFFF#32 }.recorded 5 0x11#8 0#8 0x10#8 .aal := by
  simp [State.beginFailed, State.raise, State.recorded, State.emit, subsystemOf, errorCode, errorMask, errorBit]

/-- The record of ConfigurationMalformed (60_exceptions.md R372, R373). -/
theorem beginFailed_malformed (s : State) (i : Byte) :
    s.beginFailed .configurationMalformed i =
      { s with beginResult := 0xFFFFFFFF#32 }.recorded 6 0x12#8 i 0x10#8 .aal := by
  simp [State.beginFailed, State.raise, State.recorded, State.emit, subsystemOf, errorCode, errorMask, errorBit]

/-- A second BEGIN is only recorded (43_aal.md R288). -/
theorem exec_begin_of_begun {s : State} (h : s.begun = true) :
    exec .beginAal s = .next (s.recorded 0 0x20#8 0#8 0x10#8 .aal) := by
  rw [exec, execBegin, State.beginTables, if_pos h, raise_badCommand]
  rfl

section outcomes
variable {s : State} (hbegun : s.begun = false)
include hbegun

/-- BEGIN on an empty table (43_aal.md R283). -/
theorem exec_begin_of_empty (hempty : (configTable s.table).isEmpty = true) :
    exec .beginAal s = .next
      ({ s with beginResult := 0xFFFFFFFF#32 }.recorded 5 0x11#8 0#8 0x10#8 .aal) := by
  rw [exec, execBegin, State.beginTables, if_neg (by simp [hbegun]), if_pos hempty, beginFailed_empty]

/-- BEGIN on a table with a malformed descriptor (43_aal.md R282). -/
theorem exec_begin_of_malformed (hsome : (configTable s.table).isEmpty = false) {k : ℕ}
    (herror : buildBoards 0 (configTable s.table) = .error k) :
    exec .beginAal s = .next
      ({ s with beginResult := 0xFFFFFFFF#32 }.recorded 6 0x12#8 (BitVec.ofNat 8 k) 0x10#8 .aal) := by
  rw [exec, execBegin, State.beginTables, if_neg (by simp [hbegun]), if_neg (by simp [hsome]), herror]
  exact congrArg _ (beginFailed_malformed ..)

/-- BEGIN on a good table builds the tables and brings the bus up (43_aal.md R280). -/
theorem exec_begin_of_built (hsome : (configTable s.table).isEmpty = false) {boards : List Board}
    (hok : buildBoards 0 (configTable s.table) = .ok boards) :
    exec .beginAal s = .next (s.withTables boards).busPhase := by
  rw [exec, execBegin, State.beginTables, if_neg (by simp [hbegun]), if_neg (by simp [hsome]), hok]

end outcomes

/-- A table of no entry is empty, and any other is not. -/
theorem isEmpty_configTable {s : State} {n : ℕ} (h : s.TableLength n) :
    (configTable s.table).isEmpty = decide (n = 0) := by
  rw [Bool.eq_iff_iff, decide_eq_true_iff, List.isEmpty_iff_length_eq_zero, length_configTable h]

/-- Settles O38: the empty table, and the table whose first malformed descriptor is i. -/
theorem beginOnABadTable : Obligations.BeginOnABadTable := by
  intro s n hbegun hlength
  refine ⟨fun hzero => exec_begin_of_empty hbegun ?_, fun i hi hgood hbad => ?_⟩
  · rw [isEmpty_configTable hlength, decide_eq_true hzero]
  · obtain ⟨k, herror, hfirst⟩ := buildBoards_of_malformed hlength hi hbad
    rw [hfirst hgood] at herror
    refine exec_begin_of_malformed hbegun ?_ herror
    rw [isEmpty_configTable hlength, decide_eq_false (Nat.ne_zero_of_lt hi)]

/-- Settles O39: a second BEGIN is refused, and a failed one changes BEGIN_RESULT and the error record alone. -/
theorem beginBuildsAtMostOnce : Obligations.BeginBuildsAtMostOnce := by
  intro s
  refine ⟨exec_begin_of_begun, fun n hbegun hlength hbad => ?_⟩
  rcases hbad with hzero | ⟨i, hi, hbad⟩
  · exact ⟨_, exec_begin_of_empty hbegun (by rw [isEmpty_configTable hlength, decide_eq_true hzero]), hbegun⟩
  · obtain ⟨k, herror, -⟩ := buildBoards_of_malformed hlength hi hbad
    refine ⟨_, exec_begin_of_malformed hbegun ?_ herror, hbegun⟩
    rw [isEmpty_configTable hlength, decide_eq_false (Nat.ne_zero_of_lt hi)]

end Sys2Proof.Machine
end

section
/-! The tables that BEGIN leaves (43_aal.md R280 to R287), whatever the bus answers and on a bus that answers every
transaction: the bus phase writes no field of a board but VALID, so the devices number the channels of the boards
built. -/

namespace Sys2Proof.Machine

open Sys2Proof.Config

/-! ### The devices -/

/-- The devices of the boards are as many as their channels (43_aal.md R286). -/
theorem length_buildDevices (p : Params) (i : ℕ) (bs : List Board) :
    (buildDevices p i bs).length = (bs.map (fun bd => bd.nch.toNat)).sum := by
  induction bs generalizing i with
  | nil => rfl
  | cons bd rest ih => simp [buildDevices, boardDevices, ih]

/-- Channel ch of board b has the handle (channels of the boards before b) + ch (43_aal.md R286). -/
theorem getElem?_buildDevices (p : Params) {i b ch : ℕ} {bs : List Board} {bd : Board} (hbd : bs[b]? = some bd)
    (hch : ch < bd.nch.toNat) :
    (buildDevices p i bs)[((bs.take b).map (fun bd => bd.nch.toNat)).sum + ch]? =
      some
        { board := BitVec.ofNat 8 (i + b)
          channel := BitVec.ofNat 4 ch
          kind := bd.kind
          adcSel := if bd.kind = .ai then adcMuxCode p (BitVec.ofNat 4 ch) else 0#3 } := by
  induction bs generalizing i b with
  | nil => cases hbd
  | cons x rest ih =>
    have hlength : (boardDevices p i x).length = x.nch.toNat := by simp [boardDevices]
    rw [buildDevices]
    cases b with
    | zero =>
      obtain rfl : x = bd := Option.some.inj hbd
      rw [List.take_zero, List.map_nil, List.sum_nil, Nat.zero_add, List.getElem?_append_left (by rwa [hlength]),
        boardDevices, List.getElem?_map, List.getElem?_range hch]
      rfl
    | succ b =>
      have hrest := ih (i := i + 1) hbd
      rw [List.take_succ_cons, List.map_cons, List.sum_cons, Nat.add_assoc,
        List.getElem?_append_right (by rw [hlength]; exact Nat.le_add_right ..), hlength, Nat.add_sub_cancel_left,
        hrest, Nat.add_assoc, Nat.add_comm 1]

/-! ### Whatever the bus answers -/

/-- A board but for its VALID. -/
def Board.unvalidated (bd : Board) : Board := { bd with valid := false }

/-- What a descriptor describes is a board but for its VALID. -/
theorem Descriptor.Describes.congr {d : Descriptor} {bd cd : Board} (h : d.Describes bd)
    (heq : cd.unvalidated = bd.unvalidated) : d.Describes cd := by
  obtain ⟨cluster, slice, addr, family, valid, dirty, nch, kind, buf⟩ := bd
  obtain ⟨cluster', slice', addr', family', valid', dirty', nch', kind', buf'⟩ := cd
  simp only [Board.unvalidated, Board.mk.injEq] at heq
  obtain ⟨rfl, rfl, rfl, rfl, -, rfl, rfl, rfl, rfl⟩ := heq
  exact ⟨h.1, h.2, h.3, h.4, h.5, h.6, h.7, h.8, h.9, h.10⟩

/-- Bringing a board up changes no board but in its VALID (43_aal.md R285). -/
theorem bringUp_unvalidated (op : Byte) (s : State) (b : ℕ) :
    (s.bringUp op b).boards.map Board.unvalidated = s.boards.map Board.unvalidated := by
  rw [bringUp_boards, ← State.setBoard_boards, map_setBoard]
  rfl

/-- Probing a multiplexer is a bus effect (43_aal.md R284). -/
theorem probeMux_effect (op : Byte) (s : State) (c : ℕ) : BusEffect s (s.probeMux op c) := by
  unfold State.probeMux
  split
  · exact busProbe_effect ..
  · exact .refl s

/-- A bus effect is one beside a write of BEGIN_RESULT. -/
theorem BusEffect.withBeginResult {s t : State} (h : BusEffect s t) (w : Word) :
    BusEffect { s with beginResult := w } { t with beginResult := w } :=
  ⟨congrArg (fun u => { u with beginResult := w }) h.rest, h.trace⟩

/-- s after BusInit and the probes of the multiplexers in use (43_aal.md R284). -/
def State.muxesProbed (s : State) : State :=
  (List.range maxClusters).foldl (State.probeMux 0x10#8) (s.emit (.busInit s.params.busClockHz))

/-- s after the bus phase but for BEGIN_RESULT (43_aal.md R285). -/
def State.broughtUp (s : State) : State :=
  (List.range s.muxesProbed.numBoards).foldl (State.bringUp 0x10#8) s.muxesProbed

/-- The bus phase of BEGIN in its parts (43_aal.md R284, R285, R287). -/
theorem busPhase_eq (s : State) :
    s.busPhase = { s.broughtUp with beginResult := BitVec.ofNat 32 s.broughtUp.unreachable } := rfl

theorem busPhase_boards (s : State) : s.busPhase.boards = s.broughtUp.boards := by rw [busPhase_eq]

theorem busPhase_beginResult (s : State) : s.busPhase.beginResult = BitVec.ofNat 32 s.broughtUp.unreachable := by
  rw [busPhase_eq]

theorem muxesProbed_effect (s : State) : BusEffect s s.muxesProbed :=
  List.foldlRecOn (motive := BusEffect s) _ _ (.emit s _) fun _ h c _ => h.trans (probeMux_effect _ _ c)

/-- The bus phase keeps every board but for its VALID (43_aal.md R285). -/
theorem broughtUp_unvalidated (s : State) :
    s.broughtUp.boards.map Board.unvalidated = s.boards.map Board.unvalidated := by
  refine List.foldlRecOn (motive := fun u => u.boards.map Board.unvalidated = s.boards.map Board.unvalidated) _ _ ?_
    fun u h b _ => (bringUp_unvalidated _ u b).trans h
  rw [(muxesProbed_effect s).boards]

/-- Beside VALID and BEGIN_RESULT the bus phase is a bus effect (43_aal.md R284, R285, R287). -/
theorem busPhase_effect (s : State) :
    BusEffect { s with boards := s.busPhase.boards, beginResult := s.busPhase.beginResult } s.busPhase := by
  have hup : BusEffect { s with boards := s.broughtUp.boards } s.broughtUp :=
    ((muxesProbed_effect s).withBoards _).trans (foldl_boards_effect _ (bringUp_effect 0x10#8) _ _)
  exact hup.withBeginResult _

/-- The devices of boards and those of the same boards with other VALIDs are the same (43_aal.md R286). -/
theorem buildDevices_of_unvalidated (p : Params) {bs cs : List Board}
    (h : bs.map Board.unvalidated = cs.map Board.unvalidated) : buildDevices p 0 bs = buildDevices p 0 cs := by
  refine buildDevices_congr p ?_
  have hlocations := congrArg (List.map Board.location) h
  rwa [List.map_map, List.map_map] at hlocations

/-- What the bus phase leaves of a state with boards built and their devices (43_aal.md R281, R286, R287). -/
theorem busPhase_tables (s : State) :
    s.busPhase.boards.map Board.unvalidated = s.boards.map Board.unvalidated ∧
      s.busPhase.beginResult = BitVec.ofNat 32 (s.busPhase.boards.countP (fun bd => !bd.valid)) ∧
      (s.devices = buildDevices s.params 0 s.boards →
        s.busPhase.devices = buildDevices s.params 0 s.busPhase.boards) := by
  have hkept : s.busPhase.boards.map Board.unvalidated = s.boards.map Board.unvalidated := by
    rw [busPhase_boards]
    exact broughtUp_unvalidated s
  refine ⟨hkept, by rw [busPhase_beginResult, State.unreachable, busPhase_boards], fun hdevices => ?_⟩
  have hfixed : s.busPhase.devices = s.devices := (busPhase_effect s).devices
  rw [hfixed, hdevices, buildDevices_of_unvalidated _ hkept]

/-- Settles O40: the boards are those of the descriptors but for VALID, and the devices those of the boards. -/
theorem beginBuildsTheTables : Obligations.BeginBuildsTheTables := by
  intro s n hbegun hlength hn hwell
  obtain ⟨boards, hok, hsize, hdescribes⟩ := buildBoards_of_wellFormed hlength hwell
  have hsome : (configTable s.table).isEmpty = false := by
    rw [isEmpty_configTable hlength, decide_eq_false hn.ne']
  refine ⟨(s.withTables boards).busPhase, exec_begin_of_built hbegun hsome hok, ?_⟩
  obtain ⟨hboards, hresult, hdevices⟩ := busPhase_tables (s.withTables boards)
  have heffect := busPhase_effect (s.withTables boards)
  generalize (s.withTables boards).busPhase = t at heffect hboards hresult hdevices ⊢
  replace hboards : t.boards.map Board.unvalidated = boards.map Board.unvalidated := hboards
  replace hdevices : t.devices = buildDevices s.params 0 t.boards := hdevices rfl
  have hnumber : t.boards.length = n := by
    simpa [hsize] using congrArg List.length hboards
  have hentry {b : ℕ} (hb : b < n) : t.boards[b]? = some (t.board b) := by
    rw [State.board, List.getD_eq_getElem _ _ (hnumber.symm ▸ hb), List.getElem?_eq_getElem]
  refine ⟨?_, hnumber, fun b hb => ?_, ?_, fun b ch hb hch => ?_⟩
  · have hbuilt : t.devices = buildDevices s.params 0 boards := heffect.devices
    rw [← hresult, hbuilt]
    exact heffect
  · obtain ⟨bd, hbd, hdescribed⟩ := hdescribes b hb
    have heq := congrArg (·[b]?) hboards
    simp only [List.getElem?_map, hentry hb, hbd, Option.map_some, Option.some.injEq] at heq
    obtain ⟨hcluster, hslice, haddr, hfamily, hchannels, hao, hai, hdo, hdirty, hbuf⟩ := hdescribed.congr heq
    exact ⟨hcluster, hslice, haddr, hfamily, hchannels, hao, hai, hdo, hdirty, hbuf⟩
  · rw [State.numDevices, hdevices, length_buildDevices]
  · have hdevice := getElem?_buildDevices s.params (i := 0) (hentry hb) hch
    rw [Nat.zero_add, ← hdevices] at hdevice
    rw [State.device, List.getD_eq_getElem?_getD, hdevice, Option.getD_some]

/-! ### On a bus that answers every transaction -/

/-- The probe of the multiplexer of cluster c, answered success (43_aal.md R284). -/
def muxProbeOk (p : Params) (c : ℕ) : Event := .txn .probe (muxAddr p (BitVec.ofNat 3 c)) [] 0 .ok []

/-- A root probe that the bus answers with success (44_bus.md R340). -/
theorem busProbe_of_ok {s : State} (hok : AnswersOk 1 s) (a : BusAddr) (i op : Byte) :
    s.busProbe a i op = (.ok, s.heard [.txn .probe a [] 0 .ok []]) := by
  obtain ⟨answer, rest, hanswers⟩ := List.exists_cons_of_length_pos hok.1
  have hstatus : answer.status = .ok := by simpa [hanswers] using hok.answer (k := 0) (by decide)
  have hprobe := busProbe_withAnswers s answer rest a i op
  rw [withAnswers_self hanswers, hstatus] at hprobe
  rw [hprobe, State.heard, hanswers]
  rfl

/-- The probes of the multiplexers in use where the bus answers with success (43_aal.md R284). -/
theorem foldl_probeMux_of_ok (op : Byte) {l : List ℕ} {s : State}
    (hok : AnswersOk (((l.filter (usesCluster s.boards)).map (muxProbeOk s.params)).countP Event.isTxn) s) :
    l.foldl (State.probeMux op) s = s.heard ((l.filter (usesCluster s.boards)).map (muxProbeOk s.params)) := by
  induction l generalizing s with
  | nil => exact (heard_nil s).symm
  | cons c rest ih =>
    rw [List.foldl_cons, State.probeMux]
    by_cases hc : usesCluster s.boards c
    · rw [List.filter_cons_of_pos hc, List.map_cons, ← List.singleton_append] at hok ⊢
      obtain ⟨hnow, hrest⟩ := hok.split
      rw [if_pos hc, busProbe_of_ok hnow, heard_append]
      exact ih hrest
    · rw [List.filter_cons_of_neg hc] at hok ⊢
      rw [if_neg hc]
      exact ih hok

/-- A board brought up. -/
def Board.validated (bd : Board) : Board := { bd with valid := true }

/-- The bus phase where the bus answers with success (43_aal.md R284, R285, R287). -/
theorem busPhase_of_ok {s : State} (hok : AnswersOk ((beginOk s.params s.boards).countP Event.isTxn) s) :
    s.busPhase =
      { s.heard (beginOk s.params s.boards) with
        boards := s.boards.map Board.validated
        beginResult := 0#32 } := by
  obtain ⟨hprobes, hup⟩ := hok.split
  obtain ⟨-, hmuxes⟩ := hprobes.split
  have hprobed : s.muxesProbed = s.heard ([.busInit s.params.busClockHz] ++
      ((List.range maxClusters).filter (usesCluster s.boards)).map (muxProbeOk s.params)) := by
    rw [heard_append]
    exact foldl_probeMux_of_ok _ hmuxes
  have hbrought : s.broughtUp = (s.heard (beginOk s.params s.boards)).withBoards (s.boards.map Board.validated) := by
    rw [beginOk, heard_append, State.broughtUp, hprobed]
    refine foldl_heard (g := Board.validated) (events := bringUpOk s.params)
      (fun u k hk (hparams : u.params = s.params) _ hturn => ?_) hup
    rw [← hparams] at hturn ⊢
    exact bringUp_of_ok hk _ hturn
  rw [busPhase_eq, hbrought]
  have hnone : (s.boards.map Board.validated).countP (fun bd => !bd.valid) = 0 := by
    simp [List.countP_eq_zero, Board.validated]
  rw [State.unreachable, withBoards_boards, hnone]
  rfl

/-- Settles O41: the bus phase on the boards built. -/
theorem beginBringsUpAHealthyBus : Obligations.BeginBringsUpAHealthyBus := by
  intro s boards hbegun hsome hboards hok
  rw [exec_begin_of_built hbegun hsome hboards, busPhase_of_ok (s := s.withTables boards) hok]
  rfl

end Sys2Proof.Machine
end

section
/-! The wire frames (44_bus.md R347 to R349): after the family's first bytes, a frame read at one channel's place. -/

namespace Sys2Proof.Machine

open Sys2Proof.Config

/-! ### Lists in blocks of one size -/

section blocks
variable {β : Type} {f : ℕ → List β} {k : ℕ} (hf : ∀ i, (f i).length = k)
include hf

theorem length_flatMap_blocks (l : List ℕ) : (l.flatMap f).length = k * l.length := by
  simp [List.length_flatMap, hf, Nat.mul_comm]

/-- The block of a chosen number stands behind those of the chosen numbers below it. -/
theorem take_drop_flatMap_filter {p : ℕ → Bool} {c n : ℕ} (hc : c < n) (hp : p c = true) :
    ((((List.range n).filter p).flatMap f).drop (k * (List.range c).countP p)).take k = f c := by
  obtain ⟨m, rfl⟩ : ∃ m, n = c + (m + 1) := ⟨n - c - 1, by omega⟩
  have hbelow : k * (List.range c).countP p = (((List.range c).filter p).flatMap f).length := by
    rw [length_flatMap_blocks hf, List.countP_eq_length_filter]
  rw [List.range_add, List.range_succ_eq_map, List.map_cons, Nat.add_zero, List.filter_append,
    List.filter_cons_of_pos hp, List.flatMap_append, List.flatMap_cons, hbelow, List.drop_left, ← hf c,
    List.take_left]

/-- Entry j of block c. -/
theorem getD_flatMap_range {c n j : ℕ} (hc : c < n) (hj : j < k) (x : β) :
    ((List.range n).flatMap f).getD (k * c + j) x = (f c).getD j x := by
  have hblock := take_drop_flatMap_filter (p := fun _ => true) hf hc rfl
  rw [List.filter_true, List.countP_true, List.length_range] at hblock
  rw [← getD_drop, ← hblock, List.getD_eq_getElem?_getD, List.getD_eq_getElem?_getD, List.getElem?_take_of_lt hj]

end blocks

/-! ### The frames -/

theorem tableGet_head {α β : Type} [DecidableEq α] (k : α) (x : β) (rest : List (α × β)) (dflt : β) :
    tableGet ((k, x) :: rest) k dflt = x :=
  if_pos rfl

section frames
variable (p : Params) {bd : Board}

/-- A frame opens with its family's first bytes (44_bus.md R347 to R349). -/
theorem take_flushFrame (n : ℕ) (h : bd.family ≠ .adc) :
    (flushFrame p n bd).take (framePrefix p bd.family).length = framePrefix p bd.family := by
  unfold flushFrame
  cases hfamily : bd.family with
  | adc => exact absurd hfamily h
  | _ => exact List.take_left

variable (bd)

/-- A selective frame is the first bytes and a block of three for each dirty channel (44_bus.md R347). -/
theorem length_selectiveFrame :
    (selectiveFrame p bd).length = (framePrefix p .dacSel).length +
      3 * (List.range bd.nch.toNat).countP (fun ch => bd.dirty.getLsbD ch) := by
  rw [selectiveFrame, List.length_append, length_flatMap_blocks (k := 3) fun _ => rfl, List.countP_eq_length_filter]

theorem length_fullSetFrame :
    (fullSetFrame p bd).length = (framePrefix p .dacFull).length + (wirePerm p .dacFull bd.nch).length := by
  rw [fullSetFrame, List.length_append, List.length_map]

theorem length_latchFrame :
    (latchFrame p bd).length = (framePrefix p .gpio).length + (bd.nch.toNat + 7) / 8 := by
  rw [latchFrame, List.length_append, List.length_map, List.length_range]

variable {bd}

/-- The block of a dirty channel in a selective frame (44_bus.md R347). -/
theorem selectiveFrame_block {ch : ℕ} (hch : ch < bd.nch.toNat) (hdirty : bd.dirty.getLsbD ch = true) :
    ((selectiveFrame p bd).drop ((framePrefix p .dacSel).length +
        3 * (List.range ch).countP (fun c => bd.dirty.getLsbD c))).take 3 =
      [chanByte p .dacSel (BitVec.ofNat 4 ch), hi (bd.slot ch), lo (bd.slot ch)] := by
  rw [selectiveFrame, ← List.drop_drop, List.drop_left]
  exact take_drop_flatMap_filter
    (f := fun ch => [chanByte p .dacSel (BitVec.ofNat 4 ch), hi (bd.slot ch), lo (bd.slot ch)])
    (fun _ => rfl) hch hdirty

/-- The bytes of a channel among those of every channel (44_bus.md R348). -/
theorem getD_channelBytes {ch : ℕ} (hch : ch < bd.nch.toNat) :
    (channelBytes bd).getD (2 * ch) 0#8 = hi (bd.slot ch) ∧
      (channelBytes bd).getD (2 * ch + 1) 0#8 = lo (bd.slot ch) := by
  have hbyte {j : ℕ} (hj : j < 2) :
      (channelBytes bd).getD (2 * ch + j) 0#8 = [hi (bd.slot ch), lo (bd.slot ch)].getD j 0#8 :=
    getD_flatMap_range (f := fun ch => [hi (bd.slot ch), lo (bd.slot ch)]) (fun _ => rfl) hch hj _
  exact ⟨hbyte Nat.two_pos, hbyte Nat.one_lt_two⟩

/-- A position of a full-set frame carries the byte its wire order names (44_bus.md R348). -/
theorem getD_fullSetFrame {k : ℕ} (hk : k < (wirePerm p .dacFull bd.nch).length) :
    (fullSetFrame p bd).getD ((framePrefix p .dacFull).length + k) 0#8 =
      (channelBytes bd).getD ((wirePerm p .dacFull bd.nch).getD k 0) 0#8 := by
  rw [fullSetFrame, ← getD_drop, List.drop_left, List.getD_eq_getElem _ _ (by simpa using hk), List.getElem_map,
    List.getD_eq_getElem _ _ hk]

/-- A latch frame carries its latch bytes in order (44_bus.md R349). -/
theorem getD_latchFrame {j : ℕ} (hj : j < (bd.nch.toNat + 7) / 8) :
    (latchFrame p bd).getD ((framePrefix p .gpio).length + j) 0#8 = latchByte bd j := by
  rw [latchFrame, ← getD_drop, List.drop_left, List.getD_eq_getElem _ _ (by simpa using hj), List.getElem_map,
    List.getElem_range]

/-- Bit k of a latch byte (44_bus.md R349). -/
theorem getLsbD_latchByte (j : ℕ) {k : ℕ} (hk : k < 8) :
    (latchByte bd j).getLsbD k = (decide (8 * j + k < bd.nch.toNat) && (bd.slot (8 * j + k)).getLsbD 0) := by
  refine BitVec.getLsbD_ofBoolListLE.trans ?_
  rw [List.getD_eq_getElem _ _ (by simpa using hk), List.getElem_map, List.getElem_range]

end frames

/-- Settles O46: the parameters' entries, then each family's frame read block by block. -/
theorem wireFramesCarryTheChannels : Obligations.WireFramesCarryTheChannels := by
  intro p bd frame start perm
  refine ⟨fun h => ?_, fun x rest h => ?_, fun ch h => ?_, fun ch x rest h => ?_, fun h => ?_, fun x rest h => ?_,
    take_flushFrame p 0, fun h => ?_, fun h => ?_, fun h => ?_⟩
  · rw [framePrefix, h, tableGet]
  · rw [framePrefix, h, tableGet_head]
  · rw [chanByte, h, tableGet]
    exact setWidth_eq_zero_append ch
  · rw [chanByte, h, tableGet_head]
  · have hperm : perm = List.range (2 * bd.nch.toNat) := by simp only [perm, wirePerm, h, tableGet]
    rw [hperm]
    exact ⟨List.length_range, fun k hk => by simp [hk]⟩
  · simp only [perm, wirePerm, h, tableGet_head]
  all_goals simp only [frame, start, perm, flushFrame, h]
  · exact ⟨length_selectiveFrame p bd, fun ch hch _ hdirty => selectiveFrame_block p hch hdirty⟩
  · refine ⟨length_fullSetFrame p bd, fun k ch hk hch => ?_⟩
    obtain ⟨hhigh, hlow⟩ := getD_channelBytes hch
    rw [getD_fullSetFrame p hk]
    exact ⟨fun heq => heq ▸ hhigh, fun heq => heq ▸ hlow⟩
  · refine ⟨length_latchFrame p bd, fun j k hj hk => ?_⟩
    rw [getD_latchFrame p hj, getLsbD_latchByte j hk]

end Sys2Proof.Machine
end

section
/-! The transactions a state puts behind another's trace, and the brackets they make (44_bus.md R344 to R346):
`KeepsSegments s t` says that t is s after whole bracketed operations of its boards, which every operation below the
instructions keeps, but for the multiplexer probes of BEGIN. -/

namespace Sys2Proof.Machine

open Sys2Proof.Config

/-! ### The transactions appended -/

/-- The trace of t is that of s with events appended, and `es` are the transactions among them. -/
def Issues (s t : State) (es : List Event) : Prop :=
  ∃ log, t.trace = s.trace ++ log ∧ log.filter Event.isTxn = es

theorem Issues.of_trace {s t : State} (h : t.trace = s.trace) : Issues s t [] :=
  ⟨[], by rw [h, List.append_nil], rfl⟩

/-- An event of another kind is no transaction. -/
theorem Issues.of_event {s t : State} {e : Event} (h : t.trace = s.trace ++ [e]) (he : e.isTxn = false) :
    Issues s t [] :=
  ⟨[e], h, List.filter_cons_of_neg (Bool.eq_false_iff.1 he)⟩

theorem Issues.trans {s t u : State} {es fs : List Event} (h : Issues s t es) (k : Issues t u fs) :
    Issues s u (es ++ fs) := by
  obtain ⟨log, ht, rfl⟩ := h
  obtain ⟨log', hu, rfl⟩ := k
  exact ⟨log ++ log', by rw [hu, ht, List.append_assoc], List.filter_append ..⟩

/-- An extension that issues nothing. -/
theorem Issues.quiet {s t u : State} {es : List Event} (h : Issues s t es) (k : Issues t u []) : Issues s u es :=
  List.append_nil es ▸ h.trans k

/-- What is issued depends on the trace alone. -/
theorem Issues.congr_left {s t u : State} {es : List Event} (h : Issues s t es) (htrace : s.trace = u.trace) :
    Issues u t es := by
  rwa [Issues, htrace] at h

theorem Issues.txns_eq {s t : State} {es : List Event} (h : Issues s t es) :
    (t.trace.drop s.trace.length).filter Event.isTxn = es := by
  obtain ⟨log, ht, hlog⟩ := h
  rw [ht, List.drop_left, hlog]

theorem raise_issues (s : State) (e : ErrorKind) (i op : Byte) : Issues s (s.raise e i op) [] :=
  .of_event (s.raise_trace e i op) rfl

/-- An operation's transactions are what it issues, beside the records of the failed ones (44_bus.md R340, R356). -/
theorem afterTxns_issues (i op : Byte) (l : List Event) (s : State) :
    Issues s (s.afterTxns i op l) (l.filter Event.isTxn) := by
  induction l generalizing s with
  | nil => exact .of_trace rfl
  | cons e l ih =>
    cases e with
    | txn k a out n st bytesIn =>
      refine Issues.trans (es := [.txn k a out n st bytesIn]) ?_ (ih _)
      split
      · exact ⟨_, rfl, rfl⟩
      · exact ⟨_, List.append_assoc .., rfl⟩
    | _ => exact Issues.trans (es := []) (.of_event rfl rfl) (ih _)

theorem recordTxn_issues {s t : State} (h : t.trace = s.trace) (k : TxnKind) (a : BusAddr) (out : List Byte) (n : ℕ)
    (st : BusStatus) (bytesIn : List Byte) (i op : Byte) :
    Issues s (t.recordTxn k a out n st bytesIn i op) [.txn k a out n st bytesIn] := by
  rw [recordTxn_eq]
  exact (Issues.of_trace h).trans (afterTxns_issues i op _ t)

theorem busWrite_issues (s : State) (a : BusAddr) (bytes : List Byte) (i op : Byte) :
    Issues s (s.busWrite a bytes i op).2 [.txn .write a bytes 0 (s.busWrite a bytes i op).1 []] :=
  recordTxn_issues (askBus_trace s) ..

theorem busProbe_issues (s : State) (a : BusAddr) (i op : Byte) :
    Issues s (s.busProbe a i op).2 [.txn .probe a [] 0 (s.busProbe a i op).1 []] :=
  recordTxn_issues (askBus_trace s) ..

theorem busRead2_issues (s : State) (a : BusAddr) (i op : Byte) :
    ∃ bytesIn, Issues s (s.busRead2 a i op).2 [.txn .read a [] 2 (s.busRead2 a i op).1.1 bytesIn] :=
  ⟨_, recordTxn_issues (askBus_trace s) ..⟩

/-! ### One bracket -/

/-- A board's bus operation: its transactions, and that it changes nothing a bus operation may not. -/
structure BoardOperation (bd : Board) (x : State → BusStatus × State) : Prop where
  effect : ∀ u, BusEffect u (x u).2
  txns : ∀ u, ∃ ops, Issues u (x u).2 ops ∧ BoardTxns bd ops

/-- A bracketed operation is selected, run where the select succeeded, and deselected on both paths (44_bus.md R344
to R346). -/
theorem bracketed_segmentTxns {bd : Board} {x : State → BusStatus × State} (hx : BoardOperation bd x) (s : State)
    (i op : Byte) : ∃ es, Issues s (s.bracketed bd i op x).2 es ∧ SegmentTxns s.params bd es := by
  cases hc : bd.cluster with
  | none =>
    obtain ⟨ops, hops, hboard⟩ := hx.txns s
    rw [bracketed_root hc]
    exact ⟨ops, hops, .root ops hc hboard⟩
  | some c =>
    have hselect := busWrite_issues s (muxAddr s.params c) [1#8 <<< bd.slice.toNat] i op
    have hparams := (busWrite_effect s (muxAddr s.params c) [1#8 <<< bd.slice.toNat] i op).params
    simp only [State.bracketed, State.segBegin, State.segEnd, hc]
    split
    next hok =>
      obtain ⟨ops, hops, hboard⟩ := hx.txns (s.busWrite (muxAddr s.params c) [1#8 <<< bd.slice.toNat] i op).2
      rw [hok] at hselect
      rw [(hx.effect _).params, hparams]
      exact ⟨_, (hselect.trans hops).trans (busWrite_issues ..), .selected c ops _ hc hboard⟩
    next hfail =>
      rw [hparams]
      exact ⟨_, hselect.trans (busWrite_issues ..), .notSelected c _ _ hc hfail⟩

theorem busWrite_boardOperation (bd : Board) (bytes : List Byte) (i op : Byte) :
    BoardOperation bd (fun u => u.busWrite bd.addr bytes i op) :=
  ⟨fun u => busWrite_effect u .., fun u => ⟨_, busWrite_issues u .., .write bytes _⟩⟩

theorem busProbe_boardOperation (bd : Board) (i op : Byte) :
    BoardOperation bd (fun u => u.busProbe bd.addr i op) :=
  ⟨fun u => busProbe_effect u .., fun u => ⟨_, busProbe_issues u .., .probe _⟩⟩

/-- The operation in the bracket of an ADC register read: a pointer write and, where it succeeded, the read
(44_bus.md R351). -/
def State.registerRead (a : BusAddr) (ptr i op : Byte) (s : State) : BusStatus × State :=
  let w := s.busWrite a [ptr] i op
  if w.1 = .ok then ((w.2.busRead2 a i op).1.1, (w.2.busRead2 a i op).2) else w

theorem registerRead_boardOperation (bd : Board) (ptr i op : Byte) :
    BoardOperation bd (State.registerRead bd.addr ptr i op) where
  effect u := by
    unfold State.registerRead
    dsimp only
    split
    · exact (busWrite_effect ..).trans (busRead2_effect ..)
    · exact busWrite_effect ..
  txns u := by
    have hwrite := busWrite_issues u bd.addr [ptr] i op
    unfold State.registerRead
    dsimp only
    split
    next hok =>
      obtain ⟨bytesIn, hread⟩ := busRead2_issues (u.busWrite bd.addr [ptr] i op).2 bd.addr i op
      rw [hok] at hwrite
      exact ⟨_, hwrite.trans hread, .register ptr _ bytesIn⟩
    next => exact ⟨_, hwrite, .write [ptr] _⟩

/-- AdcRead leaves what the bracket of its register read leaves (44_bus.md R351). -/
theorem adcRead_state (s : State) (b : ℕ) (ptr op : Byte) :
    (s.adcRead b ptr op).2 = (s.bracketed (s.board b) (BitVec.ofNat 8 b) op
      (State.registerRead (s.board b).addr ptr (BitVec.ofNat 8 b) op)).2 := by
  unfold State.adcRead State.bracketed State.registerRead
  dsimp only
  split_ifs <;> rfl

/-! ### Brackets one after another -/

theorem BoardTxns.congr {bd cd : Board} {es : List Event} (h : BoardTxns bd es) (haddr : cd.addr = bd.addr) :
    BoardTxns cd es := by
  cases h <;> rw [← haddr]
  case write bytes st => exact .write bytes st
  case probe st => exact .probe st
  case register ptr st bytesIn => exact .register ptr st bytesIn

/-- A board's brackets depend on its location alone. -/
theorem SegmentTxns.congr {p : Params} {bd cd : Board} {es : List Event} (h : SegmentTxns p bd es)
    (hlocation : cd.location = bd.location) : SegmentTxns p cd es := by
  simp only [Board.location, Prod.mk.injEq] at hlocation
  obtain ⟨hcluster, hslice, haddr, -⟩ := hlocation
  cases h with
  | root ops hc hops => exact .root es (hcluster.trans hc) (hops.congr haddr)
  | selected c ops st hc hops => exact hslice ▸ .selected c ops st (hcluster.trans hc) (hops.congr haddr)
  | notSelected c st₁ st₂ hc hst => exact hslice ▸ .notSelected c st₁ st₂ (hcluster.trans hc) hst

theorem Disciplined.congr {p : Params} {bs cs : List Board} {es : List Event} (h : Disciplined p bs es)
    (hlocation : cs.map Board.location = bs.map Board.location) : Disciplined p cs es := by
  induction h with
  | nil => exact .nil
  | board bd ops rest hmem hops _ ih =>
    obtain ⟨cd, hcd, heq⟩ := List.mem_map.1 (hlocation ▸ List.mem_map_of_mem hmem)
    exact .board cd ops rest hcd (hops.congr heq) ih

theorem Disciplined.append {p : Params} {bs : List Board} {es fs : List Event} (h : Disciplined p bs es)
    (k : Disciplined p bs fs) : Disciplined p bs (es ++ fs) := by
  induction h with
  | nil => exact k
  | board bd ops rest hmem hops _ ih => exact List.append_assoc .. ▸ .board bd ops _ hmem hops ih

/-- t is s after whole bracketed operations of the boards of s; no board moves. -/
structure KeepsSegments (s t : State) : Prop where
  params : t.params = s.params
  locations : t.boards.map Board.location = s.boards.map Board.location
  txns : ∃ ops, Issues s t ops ∧ Disciplined s.params s.boards ops

/-- Nothing issued and no board moved. -/
theorem KeepsSegments.quiet {s t : State} (hissues : Issues s t []) (hparams : t.params = s.params)
    (hlocations : t.boards.map Board.location = s.boards.map Board.location) : KeepsSegments s t :=
  ⟨hparams, hlocations, [], hissues, .nil⟩

theorem KeepsSegments.of_eq {s t : State} (htrace : t.trace = s.trace) (hparams : t.params = s.params)
    (hboards : t.boards = s.boards) : KeepsSegments s t :=
  .quiet (.of_trace htrace) hparams (congrArg _ hboards)

theorem KeepsSegments.refl (s : State) : KeepsSegments s s := .of_eq rfl rfl rfl

theorem KeepsSegments.trans {s t u : State} (h : KeepsSegments s t) (k : KeepsSegments t u) : KeepsSegments s u := by
  obtain ⟨hparams, hlocations, ops, hops, hdisciplined⟩ := h
  obtain ⟨kparams, klocations, ops', kops, kdisciplined⟩ := k
  rw [hparams] at kdisciplined
  exact ⟨kparams.trans hparams, klocations.trans hlocations, ops ++ ops', hops.trans kops,
    hdisciplined.append (kdisciplined.congr hlocations.symm)⟩

theorem KeepsSegments.numBoards {s t : State} (h : KeepsSegments s t) : t.numBoards = s.numBoards := by
  simpa [State.numBoards] using congrArg List.length h.locations

theorem raise_keepsSegments (s : State) (e : ErrorKind) (i op : Byte) : KeepsSegments s (s.raise e i op) :=
  .quiet (raise_issues s e i op) rfl rfl

theorem setBoard_keepsSegments (s : State) (b : ℕ) {x : Board} (hx : x.location = (s.board b).location) :
    KeepsSegments s (s.setBoard b x) :=
  .quiet (.of_trace rfl) rfl (map_setBoard _ s b hx)

theorem setVoice_keepsSegments (s : State) (v : ℕ) (x : Voice) : KeepsSegments s (s.setVoice v x) :=
  .of_eq rfl rfl rfl

theorem State.board_mem {s : State} {b : ℕ} (hb : b < s.numBoards) : s.board b ∈ s.boards := by
  rw [State.board, List.getD_eq_getElem _ _ hb]
  exact List.getElem_mem hb

/-- A board beyond NBOARDS reads as an invalid one. -/
theorem State.lt_of_valid {s : State} {b : ℕ} (h : (s.board b).valid = true) : b < s.numBoards := by
  by_contra hb
  rw [State.board, List.getD_eq_default _ _ (Nat.le_of_not_lt hb)] at h
  cases h

/-- A bracketed operation of a board of the table. -/
theorem bracketed_keepsSegments {s : State} {b : ℕ} (hb : b < s.numBoards) {x : State → BusStatus × State}
    (hx : BoardOperation (s.board b) x) (i op : Byte) : KeepsSegments s (s.bracketed (s.board b) i op x).2 := by
  have heffect := bracketed_effect s (s.board b) i op x hx.effect
  obtain ⟨es, hissues, hsegment⟩ := bracketed_segmentTxns hx s i op
  exact ⟨heffect.params, by rw [heffect.boards], es, hissues,
    List.append_nil es ▸ .board _ es [] (State.board_mem hb) hsegment .nil⟩

/-- A scan of boards of the table. -/
theorem foldl_keepsSegments {f : State → ℕ → State} (hf : ∀ u b, b < u.numBoards → KeepsSegments u (f u b))
    (s : State) : KeepsSegments s ((List.range s.numBoards).foldl f s) := by
  refine List.foldlRecOn _ _ (.refl s) fun u hu b hb => hu.trans (hf u b ?_)
  rw [hu.numBoards]
  exact List.mem_range.1 hb

/-! ### The operations on a board -/

section board
variable {s : State} {b : ℕ}

theorem boardWrite_keepsSegments (hb : b < s.numBoards) (bytes : List Byte) (op : Byte) :
    KeepsSegments s (s.boardWrite b bytes op).2 :=
  bracketed_keepsSegments hb (busWrite_boardOperation ..) ..

theorem boardProbe_keepsSegments (hb : b < s.numBoards) (op : Byte) : KeepsSegments s (s.boardProbe b op).2 :=
  bracketed_keepsSegments hb (busProbe_boardOperation ..) ..

theorem adcRead_keepsSegments (hb : b < s.numBoards) (ptr op : Byte) : KeepsSegments s (s.adcRead b ptr op).2 := by
  rw [adcRead_state]
  exact bracketed_keepsSegments hb (registerRead_boardOperation ..) ..

theorem validateBoard_keepsSegments (hb : b < s.numBoards) (op : Byte) :
    KeepsSegments s (s.validateBoard b op) := by
  have hset := (boardProbe_keepsSegments hb op).trans (setBoard_keepsSegments _ b
    (x := { (s.boardProbe b op).2.board b with valid := decide ((s.boardProbe b op).1 = .ok) }) rfl)
  unfold State.validateBoard
  dsimp only
  split
  · exact hset
  · exact hset.trans (raise_keepsSegments ..)

theorem initWrites_keepsSegments (hb : b < s.numBoards) (op : Byte) (ts : List (List Byte)) :
    KeepsSegments s (State.initWrites b op ts s) := by
  induction ts generalizing s with
  | nil => exact .refl s
  | cons t rest ih =>
    have hwrite := boardWrite_keepsSegments hb t op
    unfold State.initWrites
    dsimp only
    split
    · exact hwrite.trans (ih (hwrite.numBoards ▸ hb))
    · exact hwrite

theorem bringUp_keepsSegments (hb : b < s.numBoards) (op : Byte) : KeepsSegments s (s.bringUp op b) := by
  have hvalidate := validateBoard_keepsSegments hb op
  unfold State.bringUp
  dsimp only
  split
  · exact hvalidate.trans (initWrites_keepsSegments (hvalidate.numBoards ▸ hb) ..)
  · exact hvalidate

theorem resetBoard_keepsSegments (hb : b < s.numBoards) (op : Byte) : KeepsSegments s (s.resetBoard b op) :=
  (bringUp_keepsSegments hb op).trans (setBoard_keepsSegments _ _ rfl)

theorem flushBoard_keepsSegments (hb : b < s.numBoards) (op : Byte) : KeepsSegments s (s.flushBoard op b) := by
  unfold State.flushBoard
  dsimp only
  split
  · exact (boardWrite_keepsSegments hb ..).trans (setBoard_keepsSegments _ _ rfl)
  · exact .refl s

end board

theorem flushAll_keepsSegments (s : State) (op : Byte) : KeepsSegments s (s.flushAll op) :=
  foldl_keepsSegments (fun _ _ hb => flushBoard_keepsSegments hb op) s

theorem withBoard_keepsSegments (b op : Byte) {f : State → State} {s : State}
    (hf : b.toNat < s.numBoards → KeepsSegments s (f s)) : KeepsSegments s (s.withBoard b op f) := by
  unfold State.withBoard
  split
  next hb => exact hf hb
  next => exact raise_keepsSegments ..

end Sys2Proof.Machine
end

section
/-! The segments of every instruction (44_bus.md R344 to R346). -/

namespace Sys2Proof.Machine

open Sys2Proof.Config

/-! ### The voice commands and TICK -/

theorem processVoice_keepsSegments (s : State) (v : ℕ) (dt : F32) (op : Byte) :
    KeepsSegments s (s.processVoice v dt op) := by
  have hrest := processVoice_rest s v dt op
  refine .quiet ?_ (congrArg State.params hrest :) (congrArg (·.boards.map Board.location) hrest :)
  by_cases hact : (s.voice v).active = true
  · have hv := State.lt_of_active hact
    rcases stateStep_cases dt op hv ((Voice.enter_active s.params _).trans hact) with
      ⟨y, hy, hstep⟩ | ⟨u, timer, rfl | rfl, hstep⟩
    · rw [processVoice_of_stateStep hact hstep hv]
      exact .of_trace rfl
    · rw [processVoice_of_stateStep hact hstep hv]
      exact .of_trace rfl
    · rw [processVoice_of_stateStep hact hstep hv]
      exact (raise_issues ..).quiet (.of_trace rfl)
  · rw [State.processVoice, if_neg hact]
    split
    · exact .of_trace rfl
    · rw [State.invariantViolation, clearVoice_rest]
      exact (raise_issues ..).quiet (.of_trace rfl)

theorem setOut_keepsSegments (s : State) (d : Byte) (k : Kind) (value : Half) (op : Byte) :
    KeepsSegments s (s.setOut d k value op) := by
  rcases setOut_cases s d k value op with ⟨-, -, -, h⟩ | ⟨-, -, -, h⟩ | ⟨-, h⟩ <;> rw [h]
  · exact setBoard_keepsSegments _ _ rfl
  · exact .refl s
  · exact raise_keepsSegments ..

theorem updateVoice_keepsSegments (s : State) (v : ℕ) (op : Byte) : KeepsSegments s (s.updateVoice v op) := by
  unfold State.updateVoice
  dsimp only
  split
  · exact (setVoice_keepsSegments ..).trans (setOut_keepsSegments ..)
  · exact .refl s

theorem withVoice_keepsSegments (v op : Byte) {f : State → State} {s : State} (hf : KeepsSegments s (f s)) :
    KeepsSegments s (s.withVoice v op f) := by
  unfold State.withVoice
  split
  · exact hf
  · exact raise_keepsSegments ..

theorem bindVoice_keepsSegments (s : State) (v : Byte) (group : BitVec 4) (channel : Byte) :
    KeepsSegments s (s.bindVoice v group channel) := by
  unfold State.bindVoice
  dsimp only
  split
  · exact raise_keepsSegments ..
  · exact setVoice_keepsSegments ..

theorem startVoice_keepsSegments (s : State) (v : ℕ) : KeepsSegments s (s.startVoice v) := by
  unfold State.startVoice
  dsimp only
  split <;> exact .of_eq rfl rfl rfl

theorem endVoice_keepsSegments (s : State) (v : ℕ) : KeepsSegments s (s.endVoice v) := by
  unfold State.endVoice
  split <;> exact .of_eq rfl rfl rfl

theorem tickModulation_keepsSegments (s : State) : KeepsSegments s s.tickModulation := by
  unfold State.tickModulation
  dsimp only
  rw [askMod_rest]
  exact .quiet (.of_event (e := .modTick s.tickDt) rfl rfl) rfl rfl

theorem tickVoices_keepsSegments (s : State) (dt : F32) (op : Byte) : KeepsSegments s (s.tickVoices dt op) := by
  refine List.foldlRecOn _ _ (.refl s) fun u hu v _ => hu.trans ?_
  unfold State.tickVoice
  split
  · exact (processVoice_keepsSegments ..).trans (updateVoice_keepsSegments ..)
  · exact .refl u

/-! ### Conversions -/

theorem startConversion_keepsSegments (s : State) (d : Byte) : KeepsSegments s (s.startConversion d) := by
  unfold State.startConversion
  rcases translate_cases s d .ai 0x14#8 with ⟨-, -, h⟩ | ⟨-, h⟩ <;> rw [h] <;> dsimp only
  · split
    next hvalid =>
      have hwrite := boardWrite_keepsSegments (State.lt_of_valid hvalid)
        (s.configBytes d) 0x14#8
      split
      · exact hwrite.trans (.of_eq rfl rfl rfl)
      · exact hwrite
    next => exact .refl s
  · exact raise_keepsSegments ..

theorem deliver_keepsSegments (s : State) (raw : Half) : KeepsSegments s (s.deliver raw) :=
  .quiet (.of_event (e := .sampleReady raw) rfl rfl) rfl rfl

theorem pollConversion_keepsSegments (s : State) : KeepsSegments s s.pollConversion := by
  unfold State.pollConversion
  dsimp only
  split
  next => exact .refl s
  split
  next => exact .refl s
  next hvalid =>
    have hb : (s.device s.awaitDev.toNat).board.toNat < s.numBoards := State.lt_of_valid (by simpa using hvalid)
    have hstatus := adcRead_keepsSegments hb s.params.adcPtrConfig 0x15#8
    have hresult := hstatus.trans (adcRead_keepsSegments (hstatus.numBoards ▸ hb) s.params.adcPtrConv 0x15#8)
    split_ifs
    · exact hstatus
    · exact hstatus
    · exact hresult
    · exact hresult.trans (deliver_keepsSegments ..)

/-! ### BEGIN -/

/-- A probe of a multiplexer (43_aal.md R284). -/
def Event.IsMuxProbe (p : Params) (e : Event) : Prop := ∃ c st, e = .txn .probe (muxAddr p c) [] 0 st []

/-- u is s after probes of multiplexers. -/
structure ProbesMuxes (s u : State) : Prop where
  params : u.params = s.params
  txns : ∃ probes, Issues s u probes ∧ ∀ e ∈ probes, e.IsMuxProbe s.params

theorem probeMux_probesMuxes (op : Byte) {s u : State} (h : ProbesMuxes s u) (c : ℕ) :
    ProbesMuxes s (u.probeMux op c) := by
  obtain ⟨hparams, probes, hissues, hprobes⟩ := h
  refine ⟨(probeMux_effect op u c).params.trans hparams, ?_⟩
  unfold State.probeMux
  split
  · refine ⟨_, hissues.trans (busProbe_issues ..), fun e he => ?_⟩
    rcases List.mem_append.1 he with he | he
    · exact hprobes e he
    · exact ⟨_, _, hparams ▸ List.mem_singleton.1 he⟩
  · exact ⟨probes, hissues, hprobes⟩

/-- The multiplexers in use are probed and nothing else is issued (43_aal.md R284). -/
theorem muxesProbed_probesMuxes (s : State) : ProbesMuxes s s.muxesProbed :=
  List.foldlRecOn (motive := ProbesMuxes s) _ _ ⟨rfl, [], .of_event rfl rfl, nofun⟩
    fun _ h c _ => probeMux_probesMuxes _ h c

theorem broughtUp_keepsSegments (s : State) : KeepsSegments s.muxesProbed s.broughtUp :=
  foldl_keepsSegments (fun _ _ hb => bringUp_keepsSegments hb _) _

/-- From s to t the transactions are whole brackets of the boards, behind the multiplexer probes of a BEGIN that
builds the tables (44_bus.md R344 to R346; 43_aal.md R284). -/
def SegmentsAfterProbes (s t : State) : Prop :=
  ∃ probes ops, Issues s t (probes ++ ops) ∧ Disciplined s.params t.boards ops ∧
    (s.begun = true ∨ t.begun = false → probes = []) ∧ ∀ e ∈ probes, e.IsMuxProbe s.params

theorem KeepsSegments.afterProbes {s t : State} (h : KeepsSegments s t) : SegmentsAfterProbes s t := by
  obtain ⟨-, hlocations, ops, hops, hdisciplined⟩ := h
  exact ⟨[], ops, hops, hdisciplined.congr hlocations, fun _ => rfl, nofun⟩

/-- The bus phase of BEGIN on the boards it built. -/
theorem busPhase_segmentsAfterProbes {s : State} (boards : List Board) (hbegun : s.begun = false) :
    SegmentsAfterProbes s (s.withTables boards).busPhase := by
  obtain ⟨-, probes, hprobed, hprobes⟩ := muxesProbed_probesMuxes (s.withTables boards)
  obtain ⟨-, hlocations, ops, hops, hdisciplined⟩ := broughtUp_keepsSegments (s.withTables boards)
  rw [(muxesProbed_effect _).params] at hdisciplined
  have hbuilt : (s.withTables boards).busPhase.begun = true := (busPhase_effect (s.withTables boards)).begun
  have htrace : (s.withTables boards).busPhase.trace = (s.withTables boards).broughtUp.trace := by rw [busPhase_eq]
  refine ⟨probes, ops, ((hprobed.trans hops).quiet (.of_trace htrace)).congr_left rfl, ?_, fun h => ?_, hprobes⟩
  · rw [busPhase_boards]
    exact hdisciplined.congr hlocations
  · simp [hbegun, hbuilt] at h

theorem beginFailed_keepsSegments (s : State) (e : ErrorKind) (i : Byte) : KeepsSegments s (s.beginFailed e i) :=
  KeepsSegments.trans (t := { s with beginResult := 0xFFFFFFFF#32 }) (.of_eq rfl rfl rfl) (raise_keepsSegments ..)

theorem beginTables_segmentsAfterProbes (s : State) : SegmentsAfterProbes s s.beginTables := by
  unfold State.beginTables
  split
  next => exact (raise_keepsSegments ..).afterProbes
  next hbegun =>
    split
    · exact (beginFailed_keepsSegments ..).afterProbes
    · split
      · exact (beginFailed_keepsSegments ..).afterProbes
      · exact busPhase_segmentsAfterProbes _ (Bool.eq_false_iff.2 hbegun)

/-! ### Every instruction -/

/-- Every command keeps the discipline of the segments (44_bus.md R346). -/
theorem command_segmentsAfterProbes {i : Instr} (hi : isCommand i = true) (s : State) :
    ∃ t, exec i s = .next t ∧ SegmentsAfterProbes s t := by
  cases i
  case rd a => cases hi
  case wr a w => cases hi
  case beginAal => exact ⟨_, rfl, beginTables_segmentsAfterProbes s⟩
  all_goals refine ⟨_, rfl, KeepsSegments.afterProbes ?_⟩
  case nop => exact .refl s
  case newvoice v group channel =>
    refine withVoice_keepsSegments _ _ ?_
    split
    · exact bindVoice_keepsSegments ..
    · exact raise_keepsSegments ..
  case start v => exact withVoice_keepsSegments _ _ (startVoice_keepsSegments ..)
  case endNote v => exact withVoice_keepsSegments _ _ (endVoice_keepsSegments ..)
  case process v => exact withVoice_keepsSegments _ _ (processVoice_keepsSegments ..)
  case update v =>
    refine withVoice_keepsSegments _ _ ?_
    split
    · exact updateVoice_keepsSegments ..
    · exact raise_keepsSegments ..
  case tick =>
    exact ((tickModulation_keepsSegments s).trans (tickVoices_keepsSegments ..)).trans (flushAll_keepsSegments ..)
  case setao d value => exact setOut_keepsSegments ..
  case setdo d value => exact setOut_keepsSegments ..
  case flush => exact flushAll_keepsSegments ..
  case startconv d => exact startConversion_keepsSegments ..
  case poll => exact pollConversion_keepsSegments s
  case validate b => exact withBoard_keepsSegments _ _ fun hb => validateBoard_keepsSegments hb _
  case resetboard b => exact withBoard_keepsSegments _ _ fun hb => resetBoard_keepsSegments hb _

theorem execCommand_segmentsAfterProbes (w : Word) (s : State) :
    ∃ t, execCommand w s = .next t ∧ SegmentsAfterProbes s t := by
  by_cases hcommand : ∃ i, decodeCommand w = .ok i ∧ isCommand i = true
  · obtain ⟨i, hdec, hi⟩ := hcommand
    rw [execCommand_of_decoded s hdec hi]
    exact command_segmentsAfterProbes hi s
  · rw [execCommand_of_not_command s (by simpa using hcommand)]
    exact ⟨_, rfl, (raise_keepsSegments ..).afterProbes⟩

/-- A host write of any register but CMD issues nothing (40_host_access.md R181). -/
theorem writeReg_keepsSegments (s : State) (r : Reg) (w : Word) : KeepsSegments s (s.writeReg r w) := by
  cases r with
  | voice v x =>
    simp only [State.writeReg, State.writeVoice]
    split
    · exact setVoice_keepsSegments ..
    · exact raise_keepsSegments ..
  | tickDt =>
    simp only [State.writeReg]
    split
    · exact .of_eq rfl rfl rfl
    · exact raise_keepsSegments ..
  | convStatus =>
    simp only [State.writeReg]
    split <;> exact .of_eq rfl rfl rfl
  | gctrl | err | adcCfg | cfgW0 | cfgW1 | cmd => exact .of_eq rfl rfl rfl
  | _ => exact raise_keepsSegments ..

/-- Every instruction keeps the discipline of the segments, a write that runs a command included. -/
theorem exec_segmentsAfterProbes (i : Instr) (s : State) : ∃ t, exec i s = .next t ∧ SegmentsAfterProbes s t := by
  cases i with
  | rd a =>
    cases hr : s.regOf a with
    | some r => exact ⟨_, execRd_of_regOf hr, (KeepsSegments.of_eq rfl rfl rfl).afterProbes⟩
    | none => exact ⟨_, execRd_of_unmapped hr, ((raise_keepsSegments ..).trans (.of_eq rfl rfl rfl)).afterProbes⟩
  | wr a w =>
    cases hr : s.regOf a with
    | none => exact ⟨_, execWr_of_unmapped w hr, (raise_keepsSegments ..).afterProbes⟩
    | some r =>
      by_cases hcmd : r = .cmd
      · subst hcmd
        simp only [exec, execWr, hr]
        exact execCommand_segmentsAfterProbes w s
      · exact ⟨_, execWr_of_regOf w hr hcmd, (writeReg_keepsSegments ..).afterProbes⟩
  | _ => exact command_segmentsAfterProbes rfl s

/-! ### VALIDATE behind a multiplexer -/

/-- The run of a write or a probe behind a multiplexer (44_bus.md R344 to R346). -/
theorem boardRun_behind {bd : Board} {c : BitVec 3} (hc : bd.cluster = some c) (p : Params) (kind : TxnKind)
    (bytes : List Byte) (a₁ a₂ a₃ : BusAnswer) (rest : List BusAnswer) :
    (boardRun p bd kind bytes (a₁ :: a₂ :: a₃ :: rest)).txns =
        (if a₁.status = .ok then
          [segTxn p c (1#8 <<< bd.slice.toNat) .ok, .txn kind bd.addr bytes 0 a₂.status [],
            segTxn p c 0x00#8 a₃.status]
        else [segTxn p c (1#8 <<< bd.slice.toNat) a₁.status, segTxn p c 0x00#8 a₂.status]) ∧
      ((boardRun p bd kind bytes (a₁ :: a₂ :: a₃ :: rest)).status = .ok ↔
        a₁.status = .ok ∧ a₂.status = .ok) := by
  simp only [boardRun, inSegment, hc, txnRun, List.getD_cons_zero, List.getD_cons_succ, List.drop_succ_cons,
    List.drop_zero]
  by_cases hselect : a₁.status = .ok
  · simp only [hselect, if_true, true_and]
    exact ⟨rfl, trivial⟩
  · simp only [hselect, if_false, false_and, true_and]

/-- A probe issues its run (44_bus.md R346). -/
theorem boardProbe_issues {s : State} {b : ℕ} (hlength : 2 * segCount (s.board b) + 1 ≤ s.busAnswers.length)
    (op : Byte) : Issues s (s.boardProbe b op).2
      ((boardRun s.params (s.board b) .probe [] s.busAnswers).txns.filter Event.isTxn) := by
  rw [boardProbe_run hlength]
  exact afterTxns_issues ..

/-- ValidateBoard issues what its probe issues (43_aal.md R297). -/
theorem validateBoard_issues {s : State} {b : ℕ} {op : Byte} {es : List Event}
    (h : Issues s (s.boardProbe b op).2 es) : Issues s (s.validateBoard b op) es := by
  unfold State.validateBoard
  dsimp only
  split
  · exact h.quiet (.of_trace rfl)
  · exact (h.quiet (.of_trace rfl)).quiet (raise_issues ..)

/-- Settles O50: the discipline of every instruction, and the run of VALIDATE's probe. -/
theorem segmentIsDeselectedOnEveryPath : Obligations.SegmentIsDeselectedOnEveryPath := by
  refine ⟨fun i s => ?_, fun s b c a₁ a₂ a₃ rest hb hc hanswers => ?_⟩
  · obtain ⟨t, ht, probes, ops, hissues, hdisciplined, hbegin, hprobes⟩ := exec_segmentsAfterProbes i s
    exact ⟨t, probes, ops, ht, hissues.txns_eq, hdisciplined, hbegin, hprobes⟩
  · have hlength : 2 * segCount (s.board b.toNat) + 1 ≤ s.busAnswers.length := by
      rw [segCount_of_cluster hc, hanswers]
      exact Nat.le_add_left ..
    obtain ⟨htxns, hstatus⟩ := boardRun_behind hc s.params .probe [] a₁ a₂ a₃ rest
    refine ⟨_, exec_validate hb, ?_, ?_⟩
    · rw [(validateBoard_issues (boardProbe_issues hlength 0x16#8)).txns_eq, hanswers, htxns]
      split <;> rfl
    · rw [validateBoard_boards, boardProbe_run hlength, hanswers, decide_eq_decide.2 hstatus]

end Sys2Proof.Machine
end

section
/-! Errors and their records (60_exceptions.md R370 to R373): nothing traps, and each error's record follows the
table. -/

namespace Sys2Proof.Machine

/-! ### The record of an error -/

/-- An error with a code up to 0x13 is labelled AAL, whatever raises it (60_exceptions.md R372). -/
theorem raise_of_aalCode (s : State) {e : ErrorKind} (i o : Byte)
    (h : 0x01 ≤ (errorCode e).toNat ∧ (errorCode e).toNat ≤ 0x13) :
    s.raise e i o = s.recorded (errorBit e) (errorCode e) i o .aal := by
  have hlabel : subsystemOf (errorCode e) o = .aal := if_pos (.inl h)
  rw [← hlabel]
  rfl

/-- An error with a code above 0x13 is labelled by the access that raises it (60_exceptions.md R372). -/
theorem raise_of_hostCode (s : State) {e : ErrorKind} (i o : Byte) (h : 0x13 < (errorCode e).toNat) :
    s.raise e i o = s.recorded (errorBit e) (errorCode e) i o (labelOf o) := by
  have hlabel : subsystemOf (errorCode e) o = labelOf o :=
    if_congr (or_iff_right fun hcode => hcode.2.not_gt h) rfl rfl
  rw [← hlabel]
  rfl

/-- Settles O9: nine codes are the AAL's own, four are labelled by the access. -/
theorem errorRecordFollowsTheTable : Obligations.ErrorRecordFollowsTheTable := by
  intro s i o
  have aal {e : ErrorKind} := raise_of_aalCode s (e := e) i o
  have host {e : ErrorKind} := raise_of_hostCode s (e := e) i o
  exact ⟨aal (by decide), aal (by decide), aal (by decide), aal (by decide), aal (by decide), aal (by decide),
    aal (by decide), aal (by decide), aal (by decide), host (by decide), host (by decide), host (by decide),
    host (by decide)⟩

/-! ### Totality -/

/-- Every command answers a next state, its errors recorded in it (60_exceptions.md R370). -/
theorem exec_command_next {i : Instr} (hi : isCommand i = true) (s : State) : ∃ t, exec i s = .next t := by
  cases i
  case rd a => cases hi
  case wr a w => cases hi
  all_goals exact ⟨_, rfl⟩

/-- A write of CMD answers a next state, also for a word that decodes to no command (30_encoding.md R148). -/
theorem execCommand_next (w : Word) (s : State) : ∃ t, execCommand w s = .next t := by
  by_cases hcommand : ∃ i, decodeCommand w = .ok i ∧ isCommand i = true
  · obtain ⟨i, hdec, hi⟩ := hcommand
    rw [execCommand_of_decoded s hdec hi]
    exact exec_command_next hi s
  · rw [execCommand_of_not_command s (by simpa using hcommand)]
    exact ⟨_, rfl⟩

/-- Every instruction answers a next state, at a mapped and at an unmapped address (60_exceptions.md R370). -/
theorem exec_next (i : Instr) (s : State) : ∃ t, exec i s = .next t := by
  cases i with
  | rd a =>
    cases hr : s.regOf a with
    | none => exact ⟨_, execRd_of_unmapped hr⟩
    | some r => exact ⟨_, execRd_of_regOf hr⟩
  | wr a w =>
    cases hr : s.regOf a with
    | none => exact ⟨_, execWr_of_unmapped w hr⟩
    | some r =>
      by_cases hcmd : r = .cmd
      · subst hcmd
        simp only [exec, execWr, hr]
        exact execCommand_next w s
      · exact ⟨_, execWr_of_regOf w hr hcmd⟩
  | _ => exact exec_command_next rfl s

/-- Every step answers a next state: idle, malformed or decoded (60_exceptions.md R370, R390). -/
theorem step_next (s : State) : Continues s := by
  cases hframes : s.frames with
  | nil => exact ⟨s, step_of_idle hframes⟩
  | cons f rest =>
    cases hdec : decodeFrame f with
    | error e => exact ⟨_, step_of_malformed hframes hdec⟩
    | ok i =>
      rw [Continues, step_of_decoded hframes hdec]
      exact exec_next i _

/-- Settles O8. -/
theorem nothingTraps : Obligations.NothingTraps :=
  ⟨exec_next, step_next⟩

end Sys2Proof.Machine
end

section
/-! The samples on the trace (43_aal.md R296; 60_exceptions.md R376): no operation adds one but POLL's delivery. -/

namespace Sys2Proof.Machine

open Sys2Proof.Config

/-- The SampleReady events of the trace. -/
def State.samples (s : State) : List Event := s.trace.filter Event.isSample

/-! ### The state's operations and the bus -/

theorem State.samples_of_trace {s t : State} (h : t.trace = s.trace) : t.samples = s.samples := by
  rw [State.samples, h, State.samples]

/-- An event of another kind is no sample. -/
theorem State.emit_samples (s : State) {e : Event} (h : e.isSample = false) : (s.emit e).samples = s.samples := by
  simp [State.samples, h]

@[simp] theorem State.raise_samples (s : State) (e : ErrorKind) (i op : Byte) :
    (s.raise e i op).samples = s.samples := by
  simp [State.samples, Event.isSample]

@[simp] theorem State.setVoice_samples (s : State) (v : ℕ) (x : Voice) : (s.setVoice v x).samples = s.samples := rfl

@[simp] theorem State.setBoard_samples (s : State) (b : ℕ) (x : Board) : (s.setBoard b x).samples = s.samples := rfl

theorem recordTxn_samples {s t : State} (h : t.trace = s.trace) (k : TxnKind) (a : BusAddr) (out : List Byte) (n : ℕ)
    (st : BusStatus) (bytesIn : List Byte) (i op : Byte) :
    (t.recordTxn k a out n st bytesIn i op).samples = s.samples := by
  have htxn : (t.emit (.txn k a out n st bytesIn)).samples = s.samples :=
    (t.emit_samples rfl).trans (State.samples_of_trace h)
  unfold State.recordTxn
  split
  · exact htxn
  · exact (State.raise_samples ..).trans htxn

@[simp] theorem busWrite_samples (s : State) (a : BusAddr) (bytes : List Byte) (i op : Byte) :
    (s.busWrite a bytes i op).2.samples = s.samples :=
  recordTxn_samples (askBus_trace s) ..

@[simp] theorem busProbe_samples (s : State) (a : BusAddr) (i op : Byte) :
    (s.busProbe a i op).2.samples = s.samples :=
  recordTxn_samples (askBus_trace s) ..

@[simp] theorem busRead2_samples (s : State) (a : BusAddr) (i op : Byte) :
    (s.busRead2 a i op).2.samples = s.samples :=
  recordTxn_samples (askBus_trace s) ..

@[simp] theorem segBegin_samples (s : State) (bd : Board) (i op : Byte) :
    (s.segBegin bd i op).2.samples = s.samples := by
  unfold State.segBegin
  split <;> simp

@[simp] theorem segEnd_samples (s : State) (bd : Board) (i op : Byte) : (s.segEnd bd i op).samples = s.samples := by
  unfold State.segEnd
  split <;> simp

/-- A bracket adds no sample where its operation adds none. -/
theorem bracketed_samples (s : State) (bd : Board) (i op : Byte) {x : State → BusStatus × State}
    (hx : ∀ u, (x u).2.samples = u.samples) : (s.bracketed bd i op x).2.samples = s.samples := by
  unfold State.bracketed
  dsimp only
  split <;> simp [hx]

@[simp] theorem boardWrite_samples (s : State) (b : ℕ) (bytes : List Byte) (op : Byte) :
    (s.boardWrite b bytes op).2.samples = s.samples :=
  bracketed_samples _ _ _ _ fun _ => busWrite_samples ..

@[simp] theorem boardProbe_samples (s : State) (b : ℕ) (op : Byte) : (s.boardProbe b op).2.samples = s.samples :=
  bracketed_samples _ _ _ _ fun _ => busProbe_samples ..

@[simp] theorem adcRead_samples (s : State) (b : ℕ) (ptr op : Byte) :
    (s.adcRead b ptr op).2.samples = s.samples := by
  rw [adcRead_state]
  refine bracketed_samples _ _ _ _ fun u => ?_
  unfold State.registerRead
  dsimp only
  split <;> simp

/-- A scan whose turns add no sample adds none. -/
theorem foldl_samples {f : State → ℕ → State} (h : ∀ s b, (f s b).samples = s.samples) (l : List ℕ) (s : State) :
    (l.foldl f s).samples = s.samples :=
  List.foldlRecOn (motive := fun u => u.samples = s.samples) l f rfl fun u hu b _ => (h u b).trans hu

/-! ### The actuator abstraction layer -/

@[simp] theorem initWrites_samples (b : ℕ) (op : Byte) (ts : List (List Byte)) (s : State) :
    (State.initWrites b op ts s).samples = s.samples := by
  induction ts generalizing s with
  | nil => rfl
  | cons t rest ih =>
    unfold State.initWrites
    dsimp only
    split <;> simp [ih]

@[simp] theorem validateBoard_samples (s : State) (b : ℕ) (op : Byte) :
    (s.validateBoard b op).samples = s.samples := by
  unfold State.validateBoard
  dsimp only
  split <;> simp

@[simp] theorem bringUp_samples (op : Byte) (s : State) (b : ℕ) : (s.bringUp op b).samples = s.samples := by
  unfold State.bringUp State.initBoard
  dsimp only
  split <;> simp

theorem probeMux_samples (op : Byte) (s : State) (c : ℕ) : (s.probeMux op c).samples = s.samples := by
  unfold State.probeMux
  split <;> simp

theorem flushBoard_samples (op : Byte) (s : State) (b : ℕ) : (s.flushBoard op b).samples = s.samples := by
  unfold State.flushBoard
  dsimp only
  split <;> simp

@[simp] theorem flushAll_samples (s : State) (op : Byte) : (s.flushAll op).samples = s.samples :=
  foldl_samples (flushBoard_samples op) ..

theorem busPhase_samples (s : State) : s.busPhase.samples = s.samples := by
  have hbroughtUp : s.broughtUp.samples = s.samples := by
    rw [State.broughtUp, foldl_samples (bringUp_samples _), State.muxesProbed, foldl_samples (probeMux_samples _),
      s.emit_samples rfl]
  have htrace : s.busPhase.trace = s.broughtUp.trace := by rw [busPhase_eq]
  exact (State.samples_of_trace htrace).trans hbroughtUp

theorem beginTables_samples (s : State) : s.beginTables.samples = s.samples := by
  unfold State.beginTables
  split
  · exact State.raise_samples ..
  · split
    · exact State.raise_samples ..
    · split
      · exact State.raise_samples ..
      · exact busPhase_samples _

@[simp] theorem setOut_samples (s : State) (d : Byte) (k : Kind) (value : Half) (op : Byte) :
    (s.setOut d k value op).samples = s.samples := by
  rcases setOut_cases s d k value op with ⟨-, -, -, h⟩ | ⟨-, -, -, h⟩ | ⟨-, h⟩ <;> simp [h]

theorem startConversion_samples (s : State) (d : Byte) : (s.startConversion d).samples = s.samples := by
  unfold State.startConversion
  rcases translate_cases s d .ai 0x14#8 with ⟨-, -, h⟩ | ⟨-, h⟩ <;> rw [h] <;> dsimp only
  · split
    · split <;> exact boardWrite_samples ..
    · rfl
  · exact State.raise_samples ..

/-- A check of a board index adds no sample where the command adds none (30_encoding.md R148). -/
theorem withBoard_samples (b op : Byte) {f : State → State} {s : State} (hf : (f s).samples = s.samples) :
    (s.withBoard b op f).samples = s.samples := by
  unfold State.withBoard
  split <;> simp [hf]

/-! ### The voice commands and TICK -/

theorem clearVoice_samples (s : State) (v : ℕ) : (s.clearVoice v).samples = s.samples := by
  rw [clearVoice_rest]
  rfl

theorem invariantViolation_samples (s : State) (v : ℕ) (op : Byte) :
    (s.invariantViolation v op).samples = s.samples :=
  (clearVoice_samples ..).trans (State.raise_samples ..)

theorem stateStep_samples (s : State) (v : ℕ) (dt : F32) (op : Byte) :
    (s.stateStep v dt op).samples = s.samples := by
  unfold State.stateStep
  split
  case h_4 =>
    unfold State.releaseStep
    dsimp only
    split_ifs
    · rfl
    · rfl
    · exact clearVoice_samples ..
  case h_1 | h_2 | h_3 => rfl
  all_goals exact invariantViolation_samples ..

@[simp] theorem processVoice_samples (s : State) (v : ℕ) (dt : F32) (op : Byte) :
    (s.processVoice v dt op).samples = s.samples := by
  unfold State.processVoice
  dsimp only
  split_ifs
  · exact stateStep_samples ..
  · rfl
  · exact invariantViolation_samples ..

@[simp] theorem updateVoice_samples (s : State) (v : ℕ) (op : Byte) : (s.updateVoice v op).samples = s.samples := by
  unfold State.updateVoice
  dsimp only
  split <;> simp

/-- A check of a voice index adds no sample where the command adds none (30_encoding.md R148). -/
theorem withVoice_samples (v op : Byte) {f : State → State} {s : State} (hf : (f s).samples = s.samples) :
    (s.withVoice v op f).samples = s.samples := by
  unfold State.withVoice
  split <;> simp [hf]

theorem bindVoice_samples (s : State) (v : Byte) (group : BitVec 4) (channel : Byte) :
    (s.bindVoice v group channel).samples = s.samples := by
  unfold State.bindVoice
  dsimp only
  split <;> simp

theorem startVoice_samples (s : State) (v : ℕ) : (s.startVoice v).samples = s.samples := by
  unfold State.startVoice
  dsimp only
  split <;> rfl

theorem endVoice_samples (s : State) (v : ℕ) : (s.endVoice v).samples = s.samples := by
  unfold State.endVoice
  split <;> rfl

theorem tickModulation_samples (s : State) : s.tickModulation.samples = s.samples := by
  unfold State.tickModulation
  dsimp only
  rw [askMod_rest]
  exact s.emit_samples (e := .modTick s.tickDt) rfl

theorem tickVoices_samples (s : State) (dt : F32) (op : Byte) : (s.tickVoices dt op).samples = s.samples := by
  refine foldl_samples (fun u v => ?_) ..
  unfold State.tickVoice
  split <;> simp

/-! ### The delivery -/

/-- t is s after the delivery of one sample (43_aal.md R296; 60_exceptions.md R376). -/
structure State.Delivers (s t : State) : Prop where
  awaited : s.awaiting = true
  answered : t.awaiting = false
  ready : t.ready = true
  sample : ∃ raw, t.samples = s.samples ++ [.sampleReady raw]

theorem deliver_samples (s : State) (raw : Half) : (s.deliver raw).samples = s.samples ++ [.sampleReady raw] :=
  List.filter_append ..

/-- POLL adds no sample, or delivers the one that is awaited (43_aal.md R296). -/
theorem pollConversion_samples (s : State) :
    s.pollConversion.samples = s.samples ∨ s.Delivers s.pollConversion := by
  unfold State.pollConversion
  dsimp only
  split_ifs with hidle
  · exact .inl rfl
  · exact .inl rfl
  · exact .inl (adcRead_samples ..)
  · exact .inl (adcRead_samples ..)
  · exact .inl ((adcRead_samples ..).trans (adcRead_samples ..))
  · refine .inr ⟨by simpa using hidle, rfl, rfl, ?_⟩
    rw [deliver_samples, adcRead_samples, adcRead_samples]
    exact ⟨_, rfl⟩

/-! ### A step -/

/-- Of the commands only POLL adds a sample (60_exceptions.md R376). -/
theorem exec_command_samples {i : Instr} {s t : State} (hi : isCommand i = true) (h : exec i s = .next t) :
    t.samples = s.samples ∨ i = .poll ∧ s.Delivers t := by
  cases i
  case rd a => cases hi
  case wr a w => cases hi
  all_goals obtain rfl := Host.Outcome.next.inj h
  case poll => exact (pollConversion_samples s).imp_right fun hdelivers => ⟨rfl, hdelivers⟩
  all_goals refine .inl ?_
  case nop => rfl
  case newvoice v group channel =>
    refine withVoice_samples _ _ ?_
    split
    · exact bindVoice_samples ..
    · exact State.raise_samples ..
  case start v => exact withVoice_samples _ _ (startVoice_samples ..)
  case endNote v => exact withVoice_samples _ _ (endVoice_samples ..)
  case process v => exact withVoice_samples _ _ (processVoice_samples ..)
  case update v =>
    refine withVoice_samples _ _ ?_
    split
    · exact updateVoice_samples ..
    · exact State.raise_samples ..
  case tick => rw [flushAll_samples, tickVoices_samples, tickModulation_samples]
  case beginAal => exact beginTables_samples s
  case setao d value => exact setOut_samples ..
  case setdo d value => exact setOut_samples ..
  case flush => exact flushAll_samples ..
  case startconv d => exact startConversion_samples ..
  case validate b => exact withBoard_samples _ _ (validateBoard_samples ..)
  case resetboard b => exact withBoard_samples _ _ (bringUp_samples ..)

/-- Of the command words only that of POLL adds a sample (30_encoding.md R144). -/
theorem execCommand_samples {w : Word} {s t : State} (h : execCommand w s = .next t) :
    t.samples = s.samples ∨ w = 0x15000000#32 ∧ s.Delivers t := by
  by_cases hcommand : ∃ i, decodeCommand w = .ok i ∧ isCommand i = true
  · obtain ⟨i, hdec, hi⟩ := hcommand
    rw [execCommand_of_decoded s hdec hi] at h
    refine (exec_command_samples hi h).imp_right fun ⟨hpoll, hdelivers⟩ => ⟨?_, hdelivers⟩
    subst hpoll
    exact (Code.command.inj (encode_of_decodeCommand hdec)).symm
  · rw [execCommand_of_not_command s (by simpa using hcommand)] at h
    exact .inl (Host.Outcome.next.inj h ▸ State.raise_samples ..)

/-- A host write of any register but CMD adds no sample (40_host_access.md R181). -/
theorem writeReg_samples (s : State) (r : Reg) (w : Word) : (s.writeReg r w).samples = s.samples := by
  cases r with
  | voice v x =>
    simp only [State.writeReg, State.writeVoice]
    split <;> simp
  | tickDt =>
    simp only [State.writeReg]
    split
    · rfl
    · exact State.raise_samples ..
  | convStatus =>
    simp only [State.writeReg]
    split <;> rfl
  | gctrl | err | adcCfg | cfgW0 | cfgW1 | cmd => rfl
  | _ => exact State.raise_samples ..

/-- Of the host accesses and commands only POLL, alone or written to CMD, adds a sample (60_exceptions.md R376). -/
theorem exec_samples {i : Instr} {s t : State} (h : exec i s = .next t) :
    t.samples = s.samples ∨ (i = .poll ∨ i = .wr 0x0008#16 0x15000000#32) ∧ s.Delivers t := by
  cases i with
  | rd a =>
    simp only [exec, execRd] at h
    split at h <;> obtain rfl := Host.Outcome.next.inj h
    · exact .inl rfl
    · exact .inl (State.raise_samples ..)
  | wr a w =>
    simp only [exec, execWr] at h
    split at h
    next => exact .inl (Host.Outcome.next.inj h ▸ State.raise_samples ..)
    next hcmd =>
      obtain rfl : a = 0x0008#16 := eq_of_address hcmd rfl
      exact (execCommand_samples h).imp_right fun ⟨hw, hdelivers⟩ => ⟨.inr (hw ▸ rfl), hdelivers⟩
    next => exact .inl (Host.Outcome.next.inj h ▸ writeReg_samples ..)
  | _ => exact (exec_command_samples rfl h).imp_right fun ⟨hpoll, hdelivers⟩ => ⟨.inl hpoll, hdelivers⟩

/-- A step adds no sample, or it is the POLL that delivers the awaited one (60_exceptions.md R376). -/
theorem step_samples {s t : State} (h : step s = .next t) :
    t.samples = s.samples ∨
      (∃ rest, s.frames = (0x8000#16 ++ 0x0008#16 ++ 0x15000000#32) :: rest) ∧ s.Delivers t := by
  cases hframes : s.frames with
  | nil =>
    rw [step_of_idle hframes] at h
    exact .inl (Host.Outcome.next.inj h ▸ rfl)
  | cons f rest =>
    cases hdec : decodeFrame f with
    | error e =>
      rw [step_of_malformed hframes hdec, State.rejectFrame] at h
      obtain rfl := Host.Outcome.next.inj h
      refine .inl ?_
      split <;> exact State.raise_samples ..
    | ok i =>
      rw [step_of_decoded hframes hdec] at h
      refine (exec_samples h).imp_right fun ⟨hi, hdelivers⟩ => ?_
      obtain ⟨hawaited, hanswered, hready, hsample⟩ := hdelivers
      refine ⟨⟨rest, ?_⟩, hawaited, hanswered, hready, hsample⟩
      rcases hi with rfl | rfl
      · cases encode_of_decodeFrame hdec
      · rw [frame_of_decodeFrame_wr hdec]

/-- On a trace that only grows, the samples behind the old trace are those added. -/
theorem samples_eq_append_drop {s t : State} (h : s.trace <+: t.trace) :
    t.samples = s.samples ++ (t.trace.drop s.trace.length).filter Event.isSample := by
  rw [State.samples, State.samples, ← List.filter_append, List.prefix_iff_eq_append.1 h]

/-- Settles O59: the trace only grows, so the samples behind the old trace are none or the one POLL delivers. -/
theorem sampleComesOnlyFromPoll : Obligations.SampleComesOnlyFromPoll := by
  intro s t hstep hany
  have happend := samples_eq_append_drop (traceOnlyGrows s t hstep).1
  rcases step_samples hstep with hnone | ⟨hframe, hawaited, hanswered, hready, raw, hsample⟩
  · have hempty := List.append_right_eq_self.1 (happend.symm.trans hnone)
    obtain ⟨e, he, hsample⟩ := List.any_eq_true.1 hany
    exact absurd hsample (List.filter_eq_nil_iff.1 hempty e he)
  · have hone := List.append_cancel_left (happend.symm.trans hsample)
    exact ⟨hframe, hawaited, hanswered, hready, by rw [List.countP_eq_length_filter, hone, List.length_singleton]⟩

end Sys2Proof.Machine
end
